-- ==== Sys2Proof/Word.lean ====
section
/-! DEFINITION. The word types of the hardware (R4, R6 of spec/00_scope.md). -/

namespace Sys2Proof

/-- One byte of memory or of the output stream. -/
abbrev Byte := BitVec 8

/-- A register, address or pc value: `XLEN` = 64 (R4 of 00_scope.md). -/
abbrev Word := BitVec 64

/-- One instruction word: `ILEN` = 32 (R4 of 00_scope.md, R90 of 30_encoding.md). -/
abbrev InstrWord := BitVec 32

/-- The index of an integer (or, as a bare index, floating) register, 0 to 31 (R21, R30 of 10_state.md). -/
abbrev Reg := BitVec 5

end Sys2Proof
end

