-- ==== Sys2Proof/Machine/Flags.lean ====
section
/-! DEFINITION. The hardware has no flags (R28 of spec/10_state.md); what it has in their place: the tests of one
register value that branches (R165 to R172 of 41_branch.md) and conditional moves (R278 to R285 of
45_operate_logical_cmov.md) make, and the 0-or-1 value of a compare (R244 of 44_operate_arith.md). -/

namespace Sys2Proof.Machine

/-- `v = 0`. -/
def isZero (v : Word) : Bool := v == 0#64

/-- `signed(v) < 0`. -/
def isNegative (v : Word) : Bool := decide (v.toInt < 0)

/-- `signed(v) <= 0`. -/
def isNotPositive (v : Word) : Bool := decide (v.toInt ≤ 0)

/-- `signed(v) > 0`. -/
def isPositive (v : Word) : Bool := decide (0 < v.toInt)

/-- `signed(v) >= 0`. -/
def isNotNegative (v : Word) : Bool := decide (0 ≤ v.toInt)

/-- `v[0] = 1`. -/
def lowBitSet (v : Word) : Bool := v.getLsbD 0

/-- 1 if the relation holds and 0 if not (R244 of 44_operate_arith.md). -/
def truth (p : Bool) : Word := if p then 1#64 else 0#64

end Sys2Proof.Machine
end

