-- ==== Sys2Proof/Syntax.lean ====
section
/-! DEFINITION. The instructions: one constructor of `Instr` per row of spec/opcode_table.json, the operand forms
(R119 of 30_encoding.md), the Formats (R92) and the Opcodes (R91). Fields the hardware ignores (R100) are kept, so
that an instruction determines its word. -/

namespace Sys2Proof

/-- Operand 2 of the Operate format (R99 of 30_encoding.md): a register when bit 12 is 0, with the ignored bits
15:13 beside it, or an 8-bit literal when bit 12 is 1. -/
inductive Operand2 where
  | reg (rb : Reg) (ignored : BitVec 3)
  | lit (v : BitVec 8)
deriving DecidableEq, Repr

/-- The eight Formats (R8 of 00_scope.md, R92 of 30_encoding.md). -/
inductive Format where
  | unknown | palCall | branch | memory | memoryBranch | memoryFormatCompute | operate | floatingPoint
deriving DecidableEq, Repr

/-- The closed enumeration of Opcodes (R91 of 30_encoding.md), one per row of spec/opcode_table.json. -/
inductive Opcode where
  | lda | ldah | ldbu | ldqU | ldwu | stw | stb | stqU | ldf | ldg | lds | ldt | stf | stg | sts | stt | ldl
  | ldq | ldlL | ldqL | stl | stq | stlC | stqC | br | fbeq | fblt | fble | bsr | fbne | fbge | fbgt | blbc
  | beq | blt | ble | blbs | bne | bge | bgt | jmp | jsr | ret | jsrCoroutine | trapb | excb | mb | wmb
  | fetch | fetchM | rpcc | rc | ecb | rs | wh64 | wh64en | addl | s4addl | subl | s4subl | cmpbge | s8addl
  | s8subl | cmpult | addq | s4addq | subq | s4subq | cmpeq | s8addq | s8subq | cmpule | addlV | sublV
  | cmplt | addqV | subqV | cmple | and | bic | cmovlbs | cmovlbc | bis | cmoveq | cmovne | ornot | xor
  | cmovlt | cmovge | eqv | amask | cmovle | cmovgt | implver | mskbl | extbl | insbl | mskwl | extwl | inswl
  | mskll | extll | insll | zap | zapnot | mskql | srl | extql | sll | insql | sra | mskwh | inswh | extwh
  | msklh | inslh | extlh | mskqh | insqh | extqh | mull | mulq | umulh | mullV | mulqV | sextb | sextw
  | ctpop | perr | ctlz | cttz | unpkbw | unpkbl | pkwb | pklb | minsb8 | minsw4 | minub8 | minuw4 | maxub8
  | maxuw4 | maxsb8 | maxsw4 | ftoit | ftois | callPal | opc01 | opc02 | opc03 | opc04 | opc05 | opc06
  | opc07 | pal19 | pal1b | pal1d | pal1e | pal1f | itofs | itoff | itoft | sqrtf | sqrts | sqrtg | sqrtt
  | addf | subf | mulf | divf | cvtdg | addg | subg | mulg | divg | cmpgeq | cmpglt | cmpgle | cvtgf | cvtgd
  | cvtgq | cvtqf | cvtqg | adds | subs | muls | divs | addt | subt | mult | divt | cmptun | cmpteq | cmptlt
  | cmptle | cvtts | cvttq | cvtqs | cvtqt | cvtst | cvtlq | cpys | cpysn | cpyse | mtFpcr | mfFpcr | fcmoveq
  | fcmovne | fcmovlt | fcmovge | fcmovle | fcmovgt | cvtql | unknown
deriving DecidableEq, Repr

/-- The instructions. Field names are those of R94 to R101 of 30_encoding.md; `b` is operand 2, `fn` the `func11`
of a floating Opcode that has more than one. -/
inductive Instr where
  -- Memory format (R96, R115 of 30_encoding.md)
  /-- R195, 43_memory.md. -/
  | lda (ra rb : Reg) (disp : BitVec 16)
  /-- R196, 43_memory.md. -/
  | ldah (ra rb : Reg) (disp : BitVec 16)
  /-- R197, 43_memory.md. -/
  | ldbu (ra rb : Reg) (disp : BitVec 16)
  /-- R203, 43_memory.md. -/
  | ldqU (ra rb : Reg) (disp : BitVec 16)
  /-- R198, 43_memory.md. -/
  | ldwu (ra rb : Reg) (disp : BitVec 16)
  /-- R206, 43_memory.md. -/
  | stw (ra rb : Reg) (disp : BitVec 16)
  /-- R205, 43_memory.md. -/
  | stb (ra rb : Reg) (disp : BitVec 16)
  /-- R209, 43_memory.md. -/
  | stqU (ra rb : Reg) (disp : BitVec 16)
  /-- R216, 43_memory.md. -/
  | ldf (fa rb : Reg) (disp : BitVec 16)
  /-- R217, 43_memory.md. -/
  | ldg (fa rb : Reg) (disp : BitVec 16)
  /-- R214, 43_memory.md. -/
  | lds (fa rb : Reg) (disp : BitVec 16)
  /-- R215, 43_memory.md. -/
  | ldt (fa rb : Reg) (disp : BitVec 16)
  /-- R218, 43_memory.md. -/
  | stf (fa rb : Reg) (disp : BitVec 16)
  /-- R219, 43_memory.md. -/
  | stg (fa rb : Reg) (disp : BitVec 16)
  /-- R220, 43_memory.md. -/
  | sts (fa rb : Reg) (disp : BitVec 16)
  /-- R221, 43_memory.md. -/
  | stt (fa rb : Reg) (disp : BitVec 16)
  /-- R199, 43_memory.md. -/
  | ldl (ra rb : Reg) (disp : BitVec 16)
  /-- R200, 43_memory.md. -/
  | ldq (ra rb : Reg) (disp : BitVec 16)
  /-- R210, 43_memory.md. -/
  | ldlL (ra rb : Reg) (disp : BitVec 16)
  /-- R211, 43_memory.md. -/
  | ldqL (ra rb : Reg) (disp : BitVec 16)
  /-- R207, 43_memory.md. -/
  | stl (ra rb : Reg) (disp : BitVec 16)
  /-- R208, 43_memory.md. -/
  | stq (ra rb : Reg) (disp : BitVec 16)
  /-- R212, 43_memory.md. -/
  | stlC (ra rb : Reg) (disp : BitVec 16)
  /-- R213, 43_memory.md. -/
  | stqC (ra rb : Reg) (disp : BitVec 16)
  -- Branch format (R95, R116 of 30_encoding.md)
  /-- R163, 41_branch.md. -/
  | br (ra : Reg) (disp : BitVec 21)
  /-- R174, 41_branch.md. -/
  | fbeq (fa : Reg) (disp : BitVec 21)
  /-- R175, 41_branch.md. -/
  | fblt (fa : Reg) (disp : BitVec 21)
  /-- R176, 41_branch.md. -/
  | fble (fa : Reg) (disp : BitVec 21)
  /-- R164, 41_branch.md. -/
  | bsr (ra : Reg) (disp : BitVec 21)
  /-- R177, 41_branch.md. -/
  | fbne (fa : Reg) (disp : BitVec 21)
  /-- R178, 41_branch.md. -/
  | fbge (fa : Reg) (disp : BitVec 21)
  /-- R179, 41_branch.md. -/
  | fbgt (fa : Reg) (disp : BitVec 21)
  /-- R171, 41_branch.md. -/
  | blbc (ra : Reg) (disp : BitVec 21)
  /-- R165, 41_branch.md. -/
  | beq (ra : Reg) (disp : BitVec 21)
  /-- R167, 41_branch.md. -/
  | blt (ra : Reg) (disp : BitVec 21)
  /-- R168, 41_branch.md. -/
  | ble (ra : Reg) (disp : BitVec 21)
  /-- R172, 41_branch.md. -/
  | blbs (ra : Reg) (disp : BitVec 21)
  /-- R166, 41_branch.md. -/
  | bne (ra : Reg) (disp : BitVec 21)
  /-- R170, 41_branch.md. -/
  | bge (ra : Reg) (disp : BitVec 21)
  /-- R169, 41_branch.md. -/
  | bgt (ra : Reg) (disp : BitVec 21)
  -- MemoryBranch format (R97, R104 of 30_encoding.md)
  /-- R181, 42_memory_branch.md. -/
  | jmp (ra rb : Reg) (jdisp : BitVec 14)
  /-- R182, 42_memory_branch.md. -/
  | jsr (ra rb : Reg) (jdisp : BitVec 14)
  /-- R183, 42_memory_branch.md. -/
  | ret (ra rb : Reg) (jdisp : BitVec 14)
  /-- R184, 42_memory_branch.md. -/
  | jsrCoroutine (ra rb : Reg) (jdisp : BitVec 14)
  -- MemoryFormatCompute format (R98, R103 of 30_encoding.md)
  /-- R515, 48_decode_only.md. -/
  | trapb (ra rb : Reg)
  /-- R516, 48_decode_only.md. -/
  | excb (ra rb : Reg)
  /-- R517, 48_decode_only.md. -/
  | mb (ra rb : Reg)
  /-- R518, 48_decode_only.md. -/
  | wmb (ra rb : Reg)
  /-- R519, 48_decode_only.md. -/
  | fetch (ra rb : Reg)
  /-- R520, 48_decode_only.md. -/
  | fetchM (ra rb : Reg)
  /-- R521, 48_decode_only.md. -/
  | rpcc (ra rb : Reg)
  /-- R522, 48_decode_only.md. -/
  | rc (ra rb : Reg)
  /-- R523, 48_decode_only.md. -/
  | ecb (ra rb : Reg)
  /-- R524, 48_decode_only.md. -/
  | rs (ra rb : Reg)
  /-- R525, 48_decode_only.md. -/
  | wh64 (ra rb : Reg)
  /-- R526, 48_decode_only.md. -/
  | wh64en (ra rb : Reg)
  -- Operate format (R99, R105 to R109 of 30_encoding.md)
  /-- R231, 44_operate_arith.md. -/
  | addl (ra : Reg) (b : Operand2) (rc : Reg)
  /-- R232, 44_operate_arith.md. -/
  | s4addl (ra : Reg) (b : Operand2) (rc : Reg)
  /-- R234, 44_operate_arith.md. -/
  | subl (ra : Reg) (b : Operand2) (rc : Reg)
  /-- R235, 44_operate_arith.md. -/
  | s4subl (ra : Reg) (b : Operand2) (rc : Reg)
  /-- R243, 44_operate_arith.md. -/
  | cmpbge (ra : Reg) (b : Operand2) (rc : Reg)
  /-- R233, 44_operate_arith.md. -/
  | s8addl (ra : Reg) (b : Operand2) (rc : Reg)
  /-- R236, 44_operate_arith.md. -/
  | s8subl (ra : Reg) (b : Operand2) (rc : Reg)
  /-- R248, 44_operate_arith.md. -/
  | cmpult (ra : Reg) (b : Operand2) (rc : Reg)
  /-- R237, 44_operate_arith.md. -/
  | addq (ra : Reg) (b : Operand2) (rc : Reg)
  /-- R238, 44_operate_arith.md. -/
  | s4addq (ra : Reg) (b : Operand2) (rc : Reg)
  /-- R240, 44_operate_arith.md. -/
  | subq (ra : Reg) (b : Operand2) (rc : Reg)
  /-- R241, 44_operate_arith.md. -/
  | s4subq (ra : Reg) (b : Operand2) (rc : Reg)
  /-- R245, 44_operate_arith.md. -/
  | cmpeq (ra : Reg) (b : Operand2) (rc : Reg)
  /-- R239, 44_operate_arith.md. -/
  | s8addq (ra : Reg) (b : Operand2) (rc : Reg)
  /-- R242, 44_operate_arith.md. -/
  | s8subq (ra : Reg) (b : Operand2) (rc : Reg)
  /-- R249, 44_operate_arith.md. -/
  | cmpule (ra : Reg) (b : Operand2) (rc : Reg)
  /-- R254, 44_operate_arith.md. -/
  | addlV (ra : Reg) (b : Operand2) (rc : Reg)
  /-- R255, 44_operate_arith.md. -/
  | sublV (ra : Reg) (b : Operand2) (rc : Reg)
  /-- R246, 44_operate_arith.md. -/
  | cmplt (ra : Reg) (b : Operand2) (rc : Reg)
  /-- R256, 44_operate_arith.md. -/
  | addqV (ra : Reg) (b : Operand2) (rc : Reg)
  /-- R257, 44_operate_arith.md. -/
  | subqV (ra : Reg) (b : Operand2) (rc : Reg)
  /-- R247, 44_operate_arith.md. -/
  | cmple (ra : Reg) (b : Operand2) (rc : Reg)
  /-- R271, 45_operate_logical_cmov.md. -/
  | and (ra : Reg) (b : Operand2) (rc : Reg)
  /-- R272, 45_operate_logical_cmov.md. -/
  | bic (ra : Reg) (b : Operand2) (rc : Reg)
  /-- R284, 45_operate_logical_cmov.md. -/
  | cmovlbs (ra : Reg) (b : Operand2) (rc : Reg)
  /-- R285, 45_operate_logical_cmov.md. -/
  | cmovlbc (ra : Reg) (b : Operand2) (rc : Reg)
  /-- R273, 45_operate_logical_cmov.md. -/
  | bis (ra : Reg) (b : Operand2) (rc : Reg)
  /-- R278, 45_operate_logical_cmov.md. -/
  | cmoveq (ra : Reg) (b : Operand2) (rc : Reg)
  /-- R279, 45_operate_logical_cmov.md. -/
  | cmovne (ra : Reg) (b : Operand2) (rc : Reg)
  /-- R274, 45_operate_logical_cmov.md. -/
  | ornot (ra : Reg) (b : Operand2) (rc : Reg)
  /-- R275, 45_operate_logical_cmov.md. -/
  | xor (ra : Reg) (b : Operand2) (rc : Reg)
  /-- R280, 45_operate_logical_cmov.md. -/
  | cmovlt (ra : Reg) (b : Operand2) (rc : Reg)
  /-- R281, 45_operate_logical_cmov.md. -/
  | cmovge (ra : Reg) (b : Operand2) (rc : Reg)
  /-- R276, 45_operate_logical_cmov.md. -/
  | eqv (ra : Reg) (b : Operand2) (rc : Reg)
  /-- R286, 45_operate_logical_cmov.md. -/
  | amask (ra : Reg) (b : Operand2) (rc : Reg)
  /-- R282, 45_operate_logical_cmov.md. -/
  | cmovle (ra : Reg) (b : Operand2) (rc : Reg)
  /-- R283, 45_operate_logical_cmov.md. -/
  | cmovgt (ra : Reg) (b : Operand2) (rc : Reg)
  /-- R287, 45_operate_logical_cmov.md. -/
  | implver (ra : Reg) (b : Operand2) (rc : Reg)
  /-- R309, 46_operate_shift_bytelane.md. -/
  | mskbl (ra : Reg) (b : Operand2) (rc : Reg)
  /-- R323, 46_operate_shift_bytelane.md. -/
  | extbl (ra : Reg) (b : Operand2) (rc : Reg)
  /-- R316, 46_operate_shift_bytelane.md. -/
  | insbl (ra : Reg) (b : Operand2) (rc : Reg)
  /-- R310, 46_operate_shift_bytelane.md. -/
  | mskwl (ra : Reg) (b : Operand2) (rc : Reg)
  /-- R324, 46_operate_shift_bytelane.md. -/
  | extwl (ra : Reg) (b : Operand2) (rc : Reg)
  /-- R317, 46_operate_shift_bytelane.md. -/
  | inswl (ra : Reg) (b : Operand2) (rc : Reg)
  /-- R311, 46_operate_shift_bytelane.md. -/
  | mskll (ra : Reg) (b : Operand2) (rc : Reg)
  /-- R325, 46_operate_shift_bytelane.md. -/
  | extll (ra : Reg) (b : Operand2) (rc : Reg)
  /-- R318, 46_operate_shift_bytelane.md. -/
  | insll (ra : Reg) (b : Operand2) (rc : Reg)
  /-- R307, 46_operate_shift_bytelane.md. -/
  | zap (ra : Reg) (b : Operand2) (rc : Reg)
  /-- R308, 46_operate_shift_bytelane.md. -/
  | zapnot (ra : Reg) (b : Operand2) (rc : Reg)
  /-- R312, 46_operate_shift_bytelane.md. -/
  | mskql (ra : Reg) (b : Operand2) (rc : Reg)
  /-- R305, 46_operate_shift_bytelane.md. -/
  | srl (ra : Reg) (b : Operand2) (rc : Reg)
  /-- R326, 46_operate_shift_bytelane.md. -/
  | extql (ra : Reg) (b : Operand2) (rc : Reg)
  /-- R304, 46_operate_shift_bytelane.md. -/
  | sll (ra : Reg) (b : Operand2) (rc : Reg)
  /-- R319, 46_operate_shift_bytelane.md. -/
  | insql (ra : Reg) (b : Operand2) (rc : Reg)
  /-- R306, 46_operate_shift_bytelane.md. -/
  | sra (ra : Reg) (b : Operand2) (rc : Reg)
  /-- R313, 46_operate_shift_bytelane.md. -/
  | mskwh (ra : Reg) (b : Operand2) (rc : Reg)
  /-- R320, 46_operate_shift_bytelane.md. -/
  | inswh (ra : Reg) (b : Operand2) (rc : Reg)
  /-- R327, 46_operate_shift_bytelane.md. -/
  | extwh (ra : Reg) (b : Operand2) (rc : Reg)
  /-- R314, 46_operate_shift_bytelane.md. -/
  | msklh (ra : Reg) (b : Operand2) (rc : Reg)
  /-- R321, 46_operate_shift_bytelane.md. -/
  | inslh (ra : Reg) (b : Operand2) (rc : Reg)
  /-- R328, 46_operate_shift_bytelane.md. -/
  | extlh (ra : Reg) (b : Operand2) (rc : Reg)
  /-- R315, 46_operate_shift_bytelane.md. -/
  | mskqh (ra : Reg) (b : Operand2) (rc : Reg)
  /-- R322, 46_operate_shift_bytelane.md. -/
  | insqh (ra : Reg) (b : Operand2) (rc : Reg)
  /-- R329, 46_operate_shift_bytelane.md. -/
  | extqh (ra : Reg) (b : Operand2) (rc : Reg)
  /-- R250, 44_operate_arith.md. -/
  | mull (ra : Reg) (b : Operand2) (rc : Reg)
  /-- R251, 44_operate_arith.md. -/
  | mulq (ra : Reg) (b : Operand2) (rc : Reg)
  /-- R252, 44_operate_arith.md. -/
  | umulh (ra : Reg) (b : Operand2) (rc : Reg)
  /-- R258, 44_operate_arith.md. -/
  | mullV (ra : Reg) (b : Operand2) (rc : Reg)
  /-- R259, 44_operate_arith.md. -/
  | mulqV (ra : Reg) (b : Operand2) (rc : Reg)
  /-- R351, 47_operate_ext_1c.md. -/
  | sextb (ra : Reg) (b : Operand2) (rc : Reg)
  /-- R352, 47_operate_ext_1c.md. -/
  | sextw (ra : Reg) (b : Operand2) (rc : Reg)
  /-- R354, 47_operate_ext_1c.md. -/
  | ctpop (ra : Reg) (b : Operand2) (rc : Reg)
  /-- R355, 47_operate_ext_1c.md. -/
  | perr (ra : Reg) (b : Operand2) (rc : Reg)
  /-- R356, 47_operate_ext_1c.md. -/
  | ctlz (ra : Reg) (b : Operand2) (rc : Reg)
  /-- R357, 47_operate_ext_1c.md. -/
  | cttz (ra : Reg) (b : Operand2) (rc : Reg)
  /-- R358, 47_operate_ext_1c.md. -/
  | unpkbw (ra : Reg) (b : Operand2) (rc : Reg)
  /-- R359, 47_operate_ext_1c.md. -/
  | unpkbl (ra : Reg) (b : Operand2) (rc : Reg)
  /-- R360, 47_operate_ext_1c.md. -/
  | pkwb (ra : Reg) (b : Operand2) (rc : Reg)
  /-- R361, 47_operate_ext_1c.md. -/
  | pklb (ra : Reg) (b : Operand2) (rc : Reg)
  /-- R362, 47_operate_ext_1c.md. -/
  | minsb8 (ra : Reg) (b : Operand2) (rc : Reg)
  /-- R363, 47_operate_ext_1c.md. -/
  | minsw4 (ra : Reg) (b : Operand2) (rc : Reg)
  /-- R364, 47_operate_ext_1c.md. -/
  | minub8 (ra : Reg) (b : Operand2) (rc : Reg)
  /-- R365, 47_operate_ext_1c.md. -/
  | minuw4 (ra : Reg) (b : Operand2) (rc : Reg)
  /-- R366, 47_operate_ext_1c.md. -/
  | maxub8 (ra : Reg) (b : Operand2) (rc : Reg)
  /-- R367, 47_operate_ext_1c.md. -/
  | maxuw4 (ra : Reg) (b : Operand2) (rc : Reg)
  /-- R368, 47_operate_ext_1c.md. -/
  | maxsb8 (ra : Reg) (b : Operand2) (rc : Reg)
  /-- R369, 47_operate_ext_1c.md. -/
  | maxsw4 (ra : Reg) (b : Operand2) (rc : Reg)
  /-- R370, 47_operate_ext_1c.md. -/
  | ftoit (ra : Reg) (b : Operand2) (rc : Reg)
  /-- R371, 47_operate_ext_1c.md. -/
  | ftois (ra : Reg) (b : Operand2) (rc : Reg)
  -- PalCall format (R94 of 30_encoding.md)
  /-- R501, 48_decode_only.md. -/
  | callPal (palfn : BitVec 26)
  -- placeholders (R117 of 30_encoding.md)
  /-- R502, 48_decode_only.md. -/
  | opc01 (low : BitVec 26)
  /-- R503, 48_decode_only.md. -/
  | opc02 (low : BitVec 26)
  /-- R504, 48_decode_only.md. -/
  | opc03 (low : BitVec 26)
  /-- R505, 48_decode_only.md. -/
  | opc04 (low : BitVec 26)
  /-- R506, 48_decode_only.md. -/
  | opc05 (low : BitVec 26)
  /-- R507, 48_decode_only.md. -/
  | opc06 (low : BitVec 26)
  /-- R508, 48_decode_only.md. -/
  | opc07 (low : BitVec 26)
  /-- R509, 48_decode_only.md. -/
  | pal19 (low : BitVec 26)
  /-- R510, 48_decode_only.md. -/
  | pal1b (low : BitVec 26)
  /-- R511, 48_decode_only.md. -/
  | pal1d (low : BitVec 26)
  /-- R512, 48_decode_only.md. -/
  | pal1e (low : BitVec 26)
  /-- R513, 48_decode_only.md. -/
  | pal1f (low : BitVec 26)
  -- FloatingPoint format (R101, R111 to R114 of 30_encoding.md)
  /-- R531, 48_decode_only.md. -/
  | itofs (fa fb fc : Reg)
  /-- R532, 48_decode_only.md. -/
  | itoff (fa fb fc : Reg)
  /-- R533, 48_decode_only.md. -/
  | itoft (fa fb fc : Reg)
  /-- R534, 48_decode_only.md. -/
  | sqrtf (fa fb : Reg) (fn : BitVec 11) (fc : Reg)
  /-- R536, 48_decode_only.md. -/
  | sqrts (fa fb : Reg) (fn : BitVec 11) (fc : Reg)
  /-- R535, 48_decode_only.md. -/
  | sqrtg (fa fb : Reg) (fn : BitVec 11) (fc : Reg)
  /-- R537, 48_decode_only.md. -/
  | sqrtt (fa fb : Reg) (fn : BitVec 11) (fc : Reg)
  /-- R538, 48_decode_only.md. -/
  | addf (fa fb : Reg) (fn : BitVec 11) (fc : Reg)
  /-- R539, 48_decode_only.md. -/
  | subf (fa fb : Reg) (fn : BitVec 11) (fc : Reg)
  /-- R540, 48_decode_only.md. -/
  | mulf (fa fb : Reg) (fn : BitVec 11) (fc : Reg)
  /-- R541, 48_decode_only.md. -/
  | divf (fa fb : Reg) (fn : BitVec 11) (fc : Reg)
  /-- R542, 48_decode_only.md. -/
  | cvtdg (fa fb : Reg) (fn : BitVec 11) (fc : Reg)
  /-- R543, 48_decode_only.md. -/
  | addg (fa fb : Reg) (fn : BitVec 11) (fc : Reg)
  /-- R544, 48_decode_only.md. -/
  | subg (fa fb : Reg) (fn : BitVec 11) (fc : Reg)
  /-- R545, 48_decode_only.md. -/
  | mulg (fa fb : Reg) (fn : BitVec 11) (fc : Reg)
  /-- R546, 48_decode_only.md. -/
  | divg (fa fb : Reg) (fn : BitVec 11) (fc : Reg)
  /-- R552, 48_decode_only.md. -/
  | cmpgeq (fa fb : Reg) (fn : BitVec 11) (fc : Reg)
  /-- R553, 48_decode_only.md. -/
  | cmpglt (fa fb : Reg) (fn : BitVec 11) (fc : Reg)
  /-- R554, 48_decode_only.md. -/
  | cmpgle (fa fb : Reg) (fn : BitVec 11) (fc : Reg)
  /-- R547, 48_decode_only.md. -/
  | cvtgf (fa fb : Reg) (fn : BitVec 11) (fc : Reg)
  /-- R548, 48_decode_only.md. -/
  | cvtgd (fa fb : Reg) (fn : BitVec 11) (fc : Reg)
  /-- R549, 48_decode_only.md. -/
  | cvtgq (fa fb : Reg) (fn : BitVec 11) (fc : Reg)
  /-- R550, 48_decode_only.md. -/
  | cvtqf (fa fb : Reg) (fn : BitVec 11) (fc : Reg)
  /-- R551, 48_decode_only.md. -/
  | cvtqg (fa fb : Reg) (fn : BitVec 11) (fc : Reg)
  /-- R555, 48_decode_only.md. -/
  | adds (fa fb : Reg) (fn : BitVec 11) (fc : Reg)
  /-- R556, 48_decode_only.md. -/
  | subs (fa fb : Reg) (fn : BitVec 11) (fc : Reg)
  /-- R557, 48_decode_only.md. -/
  | muls (fa fb : Reg) (fn : BitVec 11) (fc : Reg)
  /-- R558, 48_decode_only.md. -/
  | divs (fa fb : Reg) (fn : BitVec 11) (fc : Reg)
  /-- R559, 48_decode_only.md. -/
  | addt (fa fb : Reg) (fn : BitVec 11) (fc : Reg)
  /-- R560, 48_decode_only.md. -/
  | subt (fa fb : Reg) (fn : BitVec 11) (fc : Reg)
  /-- R561, 48_decode_only.md. -/
  | mult (fa fb : Reg) (fn : BitVec 11) (fc : Reg)
  /-- R562, 48_decode_only.md. -/
  | divt (fa fb : Reg) (fn : BitVec 11) (fc : Reg)
  /-- R567, 48_decode_only.md. -/
  | cmptun (fa fb : Reg) (fn : BitVec 11) (fc : Reg)
  /-- R568, 48_decode_only.md. -/
  | cmpteq (fa fb : Reg) (fn : BitVec 11) (fc : Reg)
  /-- R569, 48_decode_only.md. -/
  | cmptlt (fa fb : Reg) (fn : BitVec 11) (fc : Reg)
  /-- R570, 48_decode_only.md. -/
  | cmptle (fa fb : Reg) (fn : BitVec 11) (fc : Reg)
  /-- R563, 48_decode_only.md. -/
  | cvtts (fa fb : Reg) (fn : BitVec 11) (fc : Reg)
  /-- R564, 48_decode_only.md. -/
  | cvttq (fa fb : Reg) (fn : BitVec 11) (fc : Reg)
  /-- R565, 48_decode_only.md. -/
  | cvtqs (fa fb : Reg) (fn : BitVec 11) (fc : Reg)
  /-- R566, 48_decode_only.md. -/
  | cvtqt (fa fb : Reg) (fn : BitVec 11) (fc : Reg)
  /-- R571, 48_decode_only.md. -/
  | cvtst (fa fb : Reg) (fn : BitVec 11) (fc : Reg)
  /-- R572, 48_decode_only.md. -/
  | cvtlq (fa fb fc : Reg)
  /-- R573, 48_decode_only.md. -/
  | cpys (fa fb fc : Reg)
  /-- R574, 48_decode_only.md. -/
  | cpysn (fa fb fc : Reg)
  /-- R575, 48_decode_only.md. -/
  | cpyse (fa fb fc : Reg)
  /-- R576, 48_decode_only.md. -/
  | mtFpcr (fa fb fc : Reg)
  /-- R577, 48_decode_only.md. -/
  | mfFpcr (fa fb fc : Reg)
  /-- R578, 48_decode_only.md. -/
  | fcmoveq (fa fb fc : Reg)
  /-- R579, 48_decode_only.md. -/
  | fcmovne (fa fb fc : Reg)
  /-- R580, 48_decode_only.md. -/
  | fcmovlt (fa fb fc : Reg)
  /-- R581, 48_decode_only.md. -/
  | fcmovge (fa fb fc : Reg)
  /-- R582, 48_decode_only.md. -/
  | fcmovle (fa fb fc : Reg)
  /-- R583, 48_decode_only.md. -/
  | fcmovgt (fa fb fc : Reg)
  /-- R584, 48_decode_only.md. -/
  | cvtql (fa fb : Reg) (fn : BitVec 11) (fc : Reg)
  -- the default (R527 of 48_decode_only.md)
  /-- R527, 48_decode_only.md. -/
  | unknown (w : InstrWord)
deriving DecidableEq, Repr

/-- The Opcode of an instruction (R91 of 30_encoding.md). -/
def Instr.opcode : Instr → Opcode
  | .lda _ _ _ => .lda
  | .ldah _ _ _ => .ldah
  | .ldbu _ _ _ => .ldbu
  | .ldqU _ _ _ => .ldqU
  | .ldwu _ _ _ => .ldwu
  | .stw _ _ _ => .stw
  | .stb _ _ _ => .stb
  | .stqU _ _ _ => .stqU
  | .ldf _ _ _ => .ldf
  | .ldg _ _ _ => .ldg
  | .lds _ _ _ => .lds
  | .ldt _ _ _ => .ldt
  | .stf _ _ _ => .stf
  | .stg _ _ _ => .stg
  | .sts _ _ _ => .sts
  | .stt _ _ _ => .stt
  | .ldl _ _ _ => .ldl
  | .ldq _ _ _ => .ldq
  | .ldlL _ _ _ => .ldlL
  | .ldqL _ _ _ => .ldqL
  | .stl _ _ _ => .stl
  | .stq _ _ _ => .stq
  | .stlC _ _ _ => .stlC
  | .stqC _ _ _ => .stqC
  | .br _ _ => .br
  | .fbeq _ _ => .fbeq
  | .fblt _ _ => .fblt
  | .fble _ _ => .fble
  | .bsr _ _ => .bsr
  | .fbne _ _ => .fbne
  | .fbge _ _ => .fbge
  | .fbgt _ _ => .fbgt
  | .blbc _ _ => .blbc
  | .beq _ _ => .beq
  | .blt _ _ => .blt
  | .ble _ _ => .ble
  | .blbs _ _ => .blbs
  | .bne _ _ => .bne
  | .bge _ _ => .bge
  | .bgt _ _ => .bgt
  | .jmp _ _ _ => .jmp
  | .jsr _ _ _ => .jsr
  | .ret _ _ _ => .ret
  | .jsrCoroutine _ _ _ => .jsrCoroutine
  | .trapb _ _ => .trapb
  | .excb _ _ => .excb
  | .mb _ _ => .mb
  | .wmb _ _ => .wmb
  | .fetch _ _ => .fetch
  | .fetchM _ _ => .fetchM
  | .rpcc _ _ => .rpcc
  | .rc _ _ => .rc
  | .ecb _ _ => .ecb
  | .rs _ _ => .rs
  | .wh64 _ _ => .wh64
  | .wh64en _ _ => .wh64en
  | .addl _ _ _ => .addl
  | .s4addl _ _ _ => .s4addl
  | .subl _ _ _ => .subl
  | .s4subl _ _ _ => .s4subl
  | .cmpbge _ _ _ => .cmpbge
  | .s8addl _ _ _ => .s8addl
  | .s8subl _ _ _ => .s8subl
  | .cmpult _ _ _ => .cmpult
  | .addq _ _ _ => .addq
  | .s4addq _ _ _ => .s4addq
  | .subq _ _ _ => .subq
  | .s4subq _ _ _ => .s4subq
  | .cmpeq _ _ _ => .cmpeq
  | .s8addq _ _ _ => .s8addq
  | .s8subq _ _ _ => .s8subq
  | .cmpule _ _ _ => .cmpule
  | .addlV _ _ _ => .addlV
  | .sublV _ _ _ => .sublV
  | .cmplt _ _ _ => .cmplt
  | .addqV _ _ _ => .addqV
  | .subqV _ _ _ => .subqV
  | .cmple _ _ _ => .cmple
  | .and _ _ _ => .and
  | .bic _ _ _ => .bic
  | .cmovlbs _ _ _ => .cmovlbs
  | .cmovlbc _ _ _ => .cmovlbc
  | .bis _ _ _ => .bis
  | .cmoveq _ _ _ => .cmoveq
  | .cmovne _ _ _ => .cmovne
  | .ornot _ _ _ => .ornot
  | .xor _ _ _ => .xor
  | .cmovlt _ _ _ => .cmovlt
  | .cmovge _ _ _ => .cmovge
  | .eqv _ _ _ => .eqv
  | .amask _ _ _ => .amask
  | .cmovle _ _ _ => .cmovle
  | .cmovgt _ _ _ => .cmovgt
  | .implver _ _ _ => .implver
  | .mskbl _ _ _ => .mskbl
  | .extbl _ _ _ => .extbl
  | .insbl _ _ _ => .insbl
  | .mskwl _ _ _ => .mskwl
  | .extwl _ _ _ => .extwl
  | .inswl _ _ _ => .inswl
  | .mskll _ _ _ => .mskll
  | .extll _ _ _ => .extll
  | .insll _ _ _ => .insll
  | .zap _ _ _ => .zap
  | .zapnot _ _ _ => .zapnot
  | .mskql _ _ _ => .mskql
  | .srl _ _ _ => .srl
  | .extql _ _ _ => .extql
  | .sll _ _ _ => .sll
  | .insql _ _ _ => .insql
  | .sra _ _ _ => .sra
  | .mskwh _ _ _ => .mskwh
  | .inswh _ _ _ => .inswh
  | .extwh _ _ _ => .extwh
  | .msklh _ _ _ => .msklh
  | .inslh _ _ _ => .inslh
  | .extlh _ _ _ => .extlh
  | .mskqh _ _ _ => .mskqh
  | .insqh _ _ _ => .insqh
  | .extqh _ _ _ => .extqh
  | .mull _ _ _ => .mull
  | .mulq _ _ _ => .mulq
  | .umulh _ _ _ => .umulh
  | .mullV _ _ _ => .mullV
  | .mulqV _ _ _ => .mulqV
  | .sextb _ _ _ => .sextb
  | .sextw _ _ _ => .sextw
  | .ctpop _ _ _ => .ctpop
  | .perr _ _ _ => .perr
  | .ctlz _ _ _ => .ctlz
  | .cttz _ _ _ => .cttz
  | .unpkbw _ _ _ => .unpkbw
  | .unpkbl _ _ _ => .unpkbl
  | .pkwb _ _ _ => .pkwb
  | .pklb _ _ _ => .pklb
  | .minsb8 _ _ _ => .minsb8
  | .minsw4 _ _ _ => .minsw4
  | .minub8 _ _ _ => .minub8
  | .minuw4 _ _ _ => .minuw4
  | .maxub8 _ _ _ => .maxub8
  | .maxuw4 _ _ _ => .maxuw4
  | .maxsb8 _ _ _ => .maxsb8
  | .maxsw4 _ _ _ => .maxsw4
  | .ftoit _ _ _ => .ftoit
  | .ftois _ _ _ => .ftois
  | .callPal _ => .callPal
  | .opc01 _ => .opc01
  | .opc02 _ => .opc02
  | .opc03 _ => .opc03
  | .opc04 _ => .opc04
  | .opc05 _ => .opc05
  | .opc06 _ => .opc06
  | .opc07 _ => .opc07
  | .pal19 _ => .pal19
  | .pal1b _ => .pal1b
  | .pal1d _ => .pal1d
  | .pal1e _ => .pal1e
  | .pal1f _ => .pal1f
  | .itofs _ _ _ => .itofs
  | .itoff _ _ _ => .itoff
  | .itoft _ _ _ => .itoft
  | .sqrtf _ _ _ _ => .sqrtf
  | .sqrts _ _ _ _ => .sqrts
  | .sqrtg _ _ _ _ => .sqrtg
  | .sqrtt _ _ _ _ => .sqrtt
  | .addf _ _ _ _ => .addf
  | .subf _ _ _ _ => .subf
  | .mulf _ _ _ _ => .mulf
  | .divf _ _ _ _ => .divf
  | .cvtdg _ _ _ _ => .cvtdg
  | .addg _ _ _ _ => .addg
  | .subg _ _ _ _ => .subg
  | .mulg _ _ _ _ => .mulg
  | .divg _ _ _ _ => .divg
  | .cmpgeq _ _ _ _ => .cmpgeq
  | .cmpglt _ _ _ _ => .cmpglt
  | .cmpgle _ _ _ _ => .cmpgle
  | .cvtgf _ _ _ _ => .cvtgf
  | .cvtgd _ _ _ _ => .cvtgd
  | .cvtgq _ _ _ _ => .cvtgq
  | .cvtqf _ _ _ _ => .cvtqf
  | .cvtqg _ _ _ _ => .cvtqg
  | .adds _ _ _ _ => .adds
  | .subs _ _ _ _ => .subs
  | .muls _ _ _ _ => .muls
  | .divs _ _ _ _ => .divs
  | .addt _ _ _ _ => .addt
  | .subt _ _ _ _ => .subt
  | .mult _ _ _ _ => .mult
  | .divt _ _ _ _ => .divt
  | .cmptun _ _ _ _ => .cmptun
  | .cmpteq _ _ _ _ => .cmpteq
  | .cmptlt _ _ _ _ => .cmptlt
  | .cmptle _ _ _ _ => .cmptle
  | .cvtts _ _ _ _ => .cvtts
  | .cvttq _ _ _ _ => .cvttq
  | .cvtqs _ _ _ _ => .cvtqs
  | .cvtqt _ _ _ _ => .cvtqt
  | .cvtst _ _ _ _ => .cvtst
  | .cvtlq _ _ _ => .cvtlq
  | .cpys _ _ _ => .cpys
  | .cpysn _ _ _ => .cpysn
  | .cpyse _ _ _ => .cpyse
  | .mtFpcr _ _ _ => .mtFpcr
  | .mfFpcr _ _ _ => .mfFpcr
  | .fcmoveq _ _ _ => .fcmoveq
  | .fcmovne _ _ _ => .fcmovne
  | .fcmovlt _ _ _ => .fcmovlt
  | .fcmovge _ _ _ => .fcmovge
  | .fcmovle _ _ _ => .fcmovle
  | .fcmovgt _ _ _ => .fcmovgt
  | .cvtql _ _ _ _ => .cvtql
  | .unknown _ => .unknown

end Sys2Proof
end

