-- ==== Sys2Proof/WellFormed.lean ====
section
/-! DEFINITION. Which instructions the encodings admit. Two checks: the `func11` of a floating instruction is one of
its Opcode's values (R110 to R114 of spec/30_encoding.md), and an `unknown` word is in no table (R120). Every other
field is a bit vector of its own width, so nothing else can be ill formed. -/

namespace Sys2Proof

/-- The `func11` values `trp[10:8] ++ rnd[7:6] ++ low6[5:0]` of a qualified family (R110 of 30_encoding.md). -/
def qualified (trps : List (BitVec 3)) (rnds : List (BitVec 2)) (low6 : BitVec 6) : List (BitVec 11) :=
  trps.flatMap fun t => rnds.map fun r => t ++ r ++ low6

/-- VAX arithmetic: `trp` 0, 1, 4, 5; `rnd` 2, 0 (R111, R112). -/
def vaxArith (low6 : BitVec 6) : List (BitVec 11) := qualified [0, 1, 4, 5] [2, 0] low6
/-- VAX conversion from a quadword: `trp` 0; `rnd` 2, 0 (R112). -/
def vaxFromQuad (low6 : BitVec 6) : List (BitVec 11) := qualified [0] [2, 0] low6
/-- VAX compare: `trp` 0, 4; `rnd` 2 (R112). -/
def vaxCompare (low6 : BitVec 6) : List (BitVec 11) := qualified [0, 4] [2] low6
/-- IEEE arithmetic: `trp` 0, 1, 5, 7; every `rnd` (R111, R113). -/
def ieeeArith (low6 : BitVec 6) : List (BitVec 11) := qualified [0, 1, 5, 7] [2, 0, 1, 3] low6
/-- IEEE conversion from a quadword: `trp` 0, 7; every `rnd` (R113). -/
def ieeeFromQuad (low6 : BitVec 6) : List (BitVec 11) := qualified [0, 7] [2, 0, 1, 3] low6
/-- IEEE compare: `trp` 0, 5; `rnd` 2 (R113). -/
def ieeeCompare (low6 : BitVec 6) : List (BitVec 11) := qualified [0, 5] [2] low6

/-- The allocated `func7` values of an Operate primary (R105 to R109 of 30_encoding.md). -/
def func7Codes (opc : BitVec 6) : List (BitVec 7) :=
  if opc = 0x10#6 then
    [0x00, 0x02, 0x09, 0x0B, 0x0F, 0x12, 0x1B, 0x1D, 0x20, 0x22,
     0x29, 0x2B, 0x2D, 0x32, 0x3B, 0x3D, 0x40, 0x49, 0x4D, 0x60,
     0x69, 0x6D]
  else if opc = 0x11#6 then
    [0x00, 0x08, 0x14, 0x16, 0x20, 0x24, 0x26, 0x28, 0x40, 0x44,
     0x46, 0x48, 0x61, 0x64, 0x66, 0x6C]
  else if opc = 0x12#6 then
    [0x02, 0x06, 0x0B, 0x12, 0x16, 0x1B, 0x22, 0x26, 0x2B, 0x30,
     0x31, 0x32, 0x34, 0x36, 0x39, 0x3B, 0x3C, 0x52, 0x57, 0x5A,
     0x62, 0x67, 0x6A, 0x72, 0x77, 0x7A]
  else if opc = 0x13#6 then
    [0x00, 0x20, 0x30, 0x40, 0x60]
  else if opc = 0x1C#6 then
    [0x00, 0x01, 0x30, 0x31, 0x32, 0x33, 0x34, 0x35, 0x36, 0x37,
     0x38, 0x39, 0x3A, 0x3B, 0x3C, 0x3D, 0x3E, 0x3F, 0x70, 0x78]
  else []

/-- The allocated `func11` values of a FloatingPoint primary (R111 to R114 of 30_encoding.md). -/
def func11Codes (opc : BitVec 6) : List (BitVec 11) :=
  if opc = 0x14#6 then
    [0x004, 0x014, 0x024] ++ vaxArith 0x0A ++ ieeeArith 0x0B ++ vaxArith 0x2A ++ ieeeArith 0x2B
  else if opc = 0x15#6 then
    vaxArith 0x00 ++ vaxArith 0x01 ++ vaxArith 0x02 ++ vaxArith 0x03 ++ vaxArith 0x1E ++ vaxArith 0x20 ++
    vaxArith 0x21 ++ vaxArith 0x22 ++ vaxArith 0x23 ++ vaxCompare 0x25 ++ vaxCompare 0x26 ++ vaxCompare 0x27 ++
    vaxArith 0x2C ++ vaxArith 0x2D ++ vaxArith 0x2F ++ vaxFromQuad 0x3C ++ vaxFromQuad 0x3E
  else if opc = 0x16#6 then
    [0x2AC, 0x6AC] ++ ieeeArith 0x00 ++ ieeeArith 0x01 ++ ieeeArith 0x02 ++ ieeeArith 0x03 ++ ieeeArith 0x20 ++
    ieeeArith 0x21 ++ ieeeArith 0x22 ++ ieeeArith 0x23 ++ ieeeCompare 0x24 ++ ieeeCompare 0x25 ++
    ieeeCompare 0x26 ++ ieeeCompare 0x27 ++ ieeeArith 0x2C ++ ieeeArith 0x2F ++ ieeeFromQuad 0x3C ++
    ieeeFromQuad 0x3E
  else if opc = 0x17#6 then
    [0x010, 0x020, 0x021, 0x022, 0x024, 0x025, 0x02A, 0x02B, 0x02C, 0x02D, 0x02E, 0x02F, 0x030, 0x130, 0x530]
  else []

/-- The allocated `func16` values of primary 0x18 (R103 of 30_encoding.md). -/
def func16Codes : List (BitVec 16) :=
  [0x0000, 0x0400, 0x4000, 0x4400, 0x8000, 0xA000, 0xC000, 0xE000, 0xE800, 0xF000, 0xF800, 0xFC00]

/-- `Unknown` is exactly: a `func7`, `func11` or `func16` outside the table of its primary opcode (R120 of
30_encoding.md, R527 of 48_decode_only.md). -/
def unallocated (w : InstrWord) : Bool :=
  let opc := w.extractLsb' 26 6
  if opc = 0x18#6 then !func16Codes.contains (w.extractLsb' 0 16)
  else if opc ∈ [0x10#6, 0x11#6, 0x12#6, 0x13#6, 0x1C#6] then !(func7Codes opc).contains (w.extractLsb' 5 7)
  else if opc ∈ [0x14#6, 0x15#6, 0x16#6, 0x17#6] then !(func11Codes opc).contains (w.extractLsb' 5 11)
  else false

/-- The instruction is one the encodings admit. -/
def Instr.wellFormed : Instr → Bool
  | .lda _ _ _ => true
  | .ldah _ _ _ => true
  | .ldbu _ _ _ => true
  | .ldqU _ _ _ => true
  | .ldwu _ _ _ => true
  | .stw _ _ _ => true
  | .stb _ _ _ => true
  | .stqU _ _ _ => true
  | .ldf _ _ _ => true
  | .ldg _ _ _ => true
  | .lds _ _ _ => true
  | .ldt _ _ _ => true
  | .stf _ _ _ => true
  | .stg _ _ _ => true
  | .sts _ _ _ => true
  | .stt _ _ _ => true
  | .ldl _ _ _ => true
  | .ldq _ _ _ => true
  | .ldlL _ _ _ => true
  | .ldqL _ _ _ => true
  | .stl _ _ _ => true
  | .stq _ _ _ => true
  | .stlC _ _ _ => true
  | .stqC _ _ _ => true
  | .br _ _ => true
  | .fbeq _ _ => true
  | .fblt _ _ => true
  | .fble _ _ => true
  | .bsr _ _ => true
  | .fbne _ _ => true
  | .fbge _ _ => true
  | .fbgt _ _ => true
  | .blbc _ _ => true
  | .beq _ _ => true
  | .blt _ _ => true
  | .ble _ _ => true
  | .blbs _ _ => true
  | .bne _ _ => true
  | .bge _ _ => true
  | .bgt _ _ => true
  | .jmp _ _ _ => true
  | .jsr _ _ _ => true
  | .ret _ _ _ => true
  | .jsrCoroutine _ _ _ => true
  | .trapb _ _ => true
  | .excb _ _ => true
  | .mb _ _ => true
  | .wmb _ _ => true
  | .fetch _ _ => true
  | .fetchM _ _ => true
  | .rpcc _ _ => true
  | .rc _ _ => true
  | .ecb _ _ => true
  | .rs _ _ => true
  | .wh64 _ _ => true
  | .wh64en _ _ => true
  | .addl _ _ _ => true
  | .s4addl _ _ _ => true
  | .subl _ _ _ => true
  | .s4subl _ _ _ => true
  | .cmpbge _ _ _ => true
  | .s8addl _ _ _ => true
  | .s8subl _ _ _ => true
  | .cmpult _ _ _ => true
  | .addq _ _ _ => true
  | .s4addq _ _ _ => true
  | .subq _ _ _ => true
  | .s4subq _ _ _ => true
  | .cmpeq _ _ _ => true
  | .s8addq _ _ _ => true
  | .s8subq _ _ _ => true
  | .cmpule _ _ _ => true
  | .addlV _ _ _ => true
  | .sublV _ _ _ => true
  | .cmplt _ _ _ => true
  | .addqV _ _ _ => true
  | .subqV _ _ _ => true
  | .cmple _ _ _ => true
  | .and _ _ _ => true
  | .bic _ _ _ => true
  | .cmovlbs _ _ _ => true
  | .cmovlbc _ _ _ => true
  | .bis _ _ _ => true
  | .cmoveq _ _ _ => true
  | .cmovne _ _ _ => true
  | .ornot _ _ _ => true
  | .xor _ _ _ => true
  | .cmovlt _ _ _ => true
  | .cmovge _ _ _ => true
  | .eqv _ _ _ => true
  | .amask _ _ _ => true
  | .cmovle _ _ _ => true
  | .cmovgt _ _ _ => true
  | .implver _ _ _ => true
  | .mskbl _ _ _ => true
  | .extbl _ _ _ => true
  | .insbl _ _ _ => true
  | .mskwl _ _ _ => true
  | .extwl _ _ _ => true
  | .inswl _ _ _ => true
  | .mskll _ _ _ => true
  | .extll _ _ _ => true
  | .insll _ _ _ => true
  | .zap _ _ _ => true
  | .zapnot _ _ _ => true
  | .mskql _ _ _ => true
  | .srl _ _ _ => true
  | .extql _ _ _ => true
  | .sll _ _ _ => true
  | .insql _ _ _ => true
  | .sra _ _ _ => true
  | .mskwh _ _ _ => true
  | .inswh _ _ _ => true
  | .extwh _ _ _ => true
  | .msklh _ _ _ => true
  | .inslh _ _ _ => true
  | .extlh _ _ _ => true
  | .mskqh _ _ _ => true
  | .insqh _ _ _ => true
  | .extqh _ _ _ => true
  | .mull _ _ _ => true
  | .mulq _ _ _ => true
  | .umulh _ _ _ => true
  | .mullV _ _ _ => true
  | .mulqV _ _ _ => true
  | .sextb _ _ _ => true
  | .sextw _ _ _ => true
  | .ctpop _ _ _ => true
  | .perr _ _ _ => true
  | .ctlz _ _ _ => true
  | .cttz _ _ _ => true
  | .unpkbw _ _ _ => true
  | .unpkbl _ _ _ => true
  | .pkwb _ _ _ => true
  | .pklb _ _ _ => true
  | .minsb8 _ _ _ => true
  | .minsw4 _ _ _ => true
  | .minub8 _ _ _ => true
  | .minuw4 _ _ _ => true
  | .maxub8 _ _ _ => true
  | .maxuw4 _ _ _ => true
  | .maxsb8 _ _ _ => true
  | .maxsw4 _ _ _ => true
  | .ftoit _ _ _ => true
  | .ftois _ _ _ => true
  | .callPal _ => true
  | .opc01 _ => true
  | .opc02 _ => true
  | .opc03 _ => true
  | .opc04 _ => true
  | .opc05 _ => true
  | .opc06 _ => true
  | .opc07 _ => true
  | .pal19 _ => true
  | .pal1b _ => true
  | .pal1d _ => true
  | .pal1e _ => true
  | .pal1f _ => true
  | .itofs _ _ _ => true
  | .itoff _ _ _ => true
  | .itoft _ _ _ => true
  | .sqrtf _ _ fn _ => (vaxArith 0x0A).contains fn
  | .sqrts _ _ fn _ => (ieeeArith 0x0B).contains fn
  | .sqrtg _ _ fn _ => (vaxArith 0x2A).contains fn
  | .sqrtt _ _ fn _ => (ieeeArith 0x2B).contains fn
  | .addf _ _ fn _ => (vaxArith 0x00).contains fn
  | .subf _ _ fn _ => (vaxArith 0x01).contains fn
  | .mulf _ _ fn _ => (vaxArith 0x02).contains fn
  | .divf _ _ fn _ => (vaxArith 0x03).contains fn
  | .cvtdg _ _ fn _ => (vaxArith 0x1E).contains fn
  | .addg _ _ fn _ => (vaxArith 0x20).contains fn
  | .subg _ _ fn _ => (vaxArith 0x21).contains fn
  | .mulg _ _ fn _ => (vaxArith 0x22).contains fn
  | .divg _ _ fn _ => (vaxArith 0x23).contains fn
  | .cmpgeq _ _ fn _ => (vaxCompare 0x25).contains fn
  | .cmpglt _ _ fn _ => (vaxCompare 0x26).contains fn
  | .cmpgle _ _ fn _ => (vaxCompare 0x27).contains fn
  | .cvtgf _ _ fn _ => (vaxArith 0x2C).contains fn
  | .cvtgd _ _ fn _ => (vaxArith 0x2D).contains fn
  | .cvtgq _ _ fn _ => (vaxArith 0x2F).contains fn
  | .cvtqf _ _ fn _ => (vaxFromQuad 0x3C).contains fn
  | .cvtqg _ _ fn _ => (vaxFromQuad 0x3E).contains fn
  | .adds _ _ fn _ => (ieeeArith 0x00).contains fn
  | .subs _ _ fn _ => (ieeeArith 0x01).contains fn
  | .muls _ _ fn _ => (ieeeArith 0x02).contains fn
  | .divs _ _ fn _ => (ieeeArith 0x03).contains fn
  | .addt _ _ fn _ => (ieeeArith 0x20).contains fn
  | .subt _ _ fn _ => (ieeeArith 0x21).contains fn
  | .mult _ _ fn _ => (ieeeArith 0x22).contains fn
  | .divt _ _ fn _ => (ieeeArith 0x23).contains fn
  | .cmptun _ _ fn _ => (ieeeCompare 0x24).contains fn
  | .cmpteq _ _ fn _ => (ieeeCompare 0x25).contains fn
  | .cmptlt _ _ fn _ => (ieeeCompare 0x26).contains fn
  | .cmptle _ _ fn _ => (ieeeCompare 0x27).contains fn
  | .cvtts _ _ fn _ => (ieeeArith 0x2C).contains fn
  | .cvttq _ _ fn _ => (ieeeArith 0x2F).contains fn
  | .cvtqs _ _ fn _ => (ieeeFromQuad 0x3C).contains fn
  | .cvtqt _ _ fn _ => (ieeeFromQuad 0x3E).contains fn
  | .cvtst _ _ fn _ => [0x2AC#11, 0x6AC#11].contains fn
  | .cvtlq _ _ _ => true
  | .cpys _ _ _ => true
  | .cpysn _ _ _ => true
  | .cpyse _ _ _ => true
  | .mtFpcr _ _ _ => true
  | .mfFpcr _ _ _ => true
  | .fcmoveq _ _ _ => true
  | .fcmovne _ _ _ => true
  | .fcmovlt _ _ _ => true
  | .fcmovge _ _ _ => true
  | .fcmovle _ _ _ => true
  | .fcmovgt _ _ _ => true
  | .cvtql _ _ fn _ => [0x030#11, 0x130#11, 0x530#11].contains fn
  | .unknown w => unallocated w

end Sys2Proof
end

