-- ==== Sys2Proof/Decode.lean ====
section
/-! DEFINITION. The decoder (R91, R92, R102 to R117 of spec/30_encoding.md), total on all 2^32 words, and the encoder
from the same tables. An unallocated word decodes to the instruction `unknown`, by name (R120). -/

namespace Sys2Proof

/-- The primary opcode `w[31:26]` (R92). -/
def opcField (w : InstrWord) : BitVec 6 := w.extractLsb' 26 6
/-- `ra` or `fa`, `w[25:21]` (R95 to R99, R101). -/
def raField (w : InstrWord) : Reg := w.extractLsb' 21 5
/-- `rb` or `fb`, `w[20:16]` (R96 to R99, R101). -/
def rbField (w : InstrWord) : Reg := w.extractLsb' 16 5
/-- `rc` or `fc`, `w[4:0]` (R99, R101). -/
def rcField (w : InstrWord) : Reg := w.extractLsb' 0 5
/-- `disp16`, `w[15:0]` (R96). -/
def disp16Field (w : InstrWord) : BitVec 16 := w.extractLsb' 0 16
/-- `disp21`, `w[20:0]` (R95). -/
def disp21Field (w : InstrWord) : BitVec 21 := w.extractLsb' 0 21
/-- `hint`, `w[15:14]` (R97). -/
def hintField (w : InstrWord) : BitVec 2 := w.extractLsb' 14 2
/-- `jdisp`, `w[13:0]` (R97). -/
def jdispField (w : InstrWord) : BitVec 14 := w.extractLsb' 0 14
/-- `func16`, `w[15:0]` (R98). -/
def func16Field (w : InstrWord) : BitVec 16 := w.extractLsb' 0 16
/-- `func7`, `w[11:5]` (R99). -/
def func7Field (w : InstrWord) : BitVec 7 := w.extractLsb' 5 7
/-- `func11`, `w[15:5]` (R101). -/
def func11Field (w : InstrWord) : BitVec 11 := w.extractLsb' 5 11
/-- `palfn`, or the ignored low bits of a placeholder, `w[25:0]` (R94, R117). -/
def low26Field (w : InstrWord) : BitVec 26 := w.extractLsb' 0 26

/-- Operand 2: `islit` = `w[12]` selects the literal `w[20:13]` or the register `w[20:16]`, beside which bits 15:13
are ignored (R99, R100). -/
def operand2Field (w : InstrWord) : Operand2 :=
  if w.getLsbD 12 then .lit (w.extractLsb' 13 8) else .reg (w.extractLsb' 16 5) (w.extractLsb' 13 3)

/-- `low6`, `func11[5:0]` (R110). -/
def low6Field (fn : BitVec 11) : BitVec 6 := fn.extractLsb' 0 6

/-- `trp = func11[10:8]` and `rnd = func11[7:6]` are allowed values (R110). -/
def qualifierIn (trps : List (BitVec 3)) (rnds : List (BitVec 2)) (fn : BitVec 11) : Bool :=
  trps.contains (fn.extractLsb' 8 3) && rnds.contains (fn.extractLsb' 6 2)

/-- Primary 0x10, by `func7` (R105). -/
def decodeOperate10 (w : InstrWord) : Instr :=
  let ra := raField w
  let b := operand2Field w
  let rc := rcField w
  match func7Field w with
  | 0x00#7 => .addl ra b rc
  | 0x02#7 => .s4addl ra b rc
  | 0x09#7 => .subl ra b rc
  | 0x0B#7 => .s4subl ra b rc
  | 0x0F#7 => .cmpbge ra b rc
  | 0x12#7 => .s8addl ra b rc
  | 0x1B#7 => .s8subl ra b rc
  | 0x1D#7 => .cmpult ra b rc
  | 0x20#7 => .addq ra b rc
  | 0x22#7 => .s4addq ra b rc
  | 0x29#7 => .subq ra b rc
  | 0x2B#7 => .s4subq ra b rc
  | 0x2D#7 => .cmpeq ra b rc
  | 0x32#7 => .s8addq ra b rc
  | 0x3B#7 => .s8subq ra b rc
  | 0x3D#7 => .cmpule ra b rc
  | 0x40#7 => .addlV ra b rc
  | 0x49#7 => .sublV ra b rc
  | 0x4D#7 => .cmplt ra b rc
  | 0x60#7 => .addqV ra b rc
  | 0x69#7 => .subqV ra b rc
  | 0x6D#7 => .cmple ra b rc
  | _ => .unknown w

/-- Primary 0x11, by `func7` (R106). -/
def decodeOperate11 (w : InstrWord) : Instr :=
  let ra := raField w
  let b := operand2Field w
  let rc := rcField w
  match func7Field w with
  | 0x00#7 => .and ra b rc
  | 0x08#7 => .bic ra b rc
  | 0x14#7 => .cmovlbs ra b rc
  | 0x16#7 => .cmovlbc ra b rc
  | 0x20#7 => .bis ra b rc
  | 0x24#7 => .cmoveq ra b rc
  | 0x26#7 => .cmovne ra b rc
  | 0x28#7 => .ornot ra b rc
  | 0x40#7 => .xor ra b rc
  | 0x44#7 => .cmovlt ra b rc
  | 0x46#7 => .cmovge ra b rc
  | 0x48#7 => .eqv ra b rc
  | 0x61#7 => .amask ra b rc
  | 0x64#7 => .cmovle ra b rc
  | 0x66#7 => .cmovgt ra b rc
  | 0x6C#7 => .implver ra b rc
  | _ => .unknown w

/-- Primary 0x12, by `func7` (R107). -/
def decodeOperate12 (w : InstrWord) : Instr :=
  let ra := raField w
  let b := operand2Field w
  let rc := rcField w
  match func7Field w with
  | 0x02#7 => .mskbl ra b rc
  | 0x06#7 => .extbl ra b rc
  | 0x0B#7 => .insbl ra b rc
  | 0x12#7 => .mskwl ra b rc
  | 0x16#7 => .extwl ra b rc
  | 0x1B#7 => .inswl ra b rc
  | 0x22#7 => .mskll ra b rc
  | 0x26#7 => .extll ra b rc
  | 0x2B#7 => .insll ra b rc
  | 0x30#7 => .zap ra b rc
  | 0x31#7 => .zapnot ra b rc
  | 0x32#7 => .mskql ra b rc
  | 0x34#7 => .srl ra b rc
  | 0x36#7 => .extql ra b rc
  | 0x39#7 => .sll ra b rc
  | 0x3B#7 => .insql ra b rc
  | 0x3C#7 => .sra ra b rc
  | 0x52#7 => .mskwh ra b rc
  | 0x57#7 => .inswh ra b rc
  | 0x5A#7 => .extwh ra b rc
  | 0x62#7 => .msklh ra b rc
  | 0x67#7 => .inslh ra b rc
  | 0x6A#7 => .extlh ra b rc
  | 0x72#7 => .mskqh ra b rc
  | 0x77#7 => .insqh ra b rc
  | 0x7A#7 => .extqh ra b rc
  | _ => .unknown w

/-- Primary 0x13, by `func7` (R108). -/
def decodeOperate13 (w : InstrWord) : Instr :=
  let ra := raField w
  let b := operand2Field w
  let rc := rcField w
  match func7Field w with
  | 0x00#7 => .mull ra b rc
  | 0x20#7 => .mulq ra b rc
  | 0x30#7 => .umulh ra b rc
  | 0x40#7 => .mullV ra b rc
  | 0x60#7 => .mulqV ra b rc
  | _ => .unknown w

/-- Primary 0x1C, by `func7` (R109). -/
def decodeOperate1C (w : InstrWord) : Instr :=
  let ra := raField w
  let b := operand2Field w
  let rc := rcField w
  match func7Field w with
  | 0x00#7 => .sextb ra b rc
  | 0x01#7 => .sextw ra b rc
  | 0x30#7 => .ctpop ra b rc
  | 0x31#7 => .perr ra b rc
  | 0x32#7 => .ctlz ra b rc
  | 0x33#7 => .cttz ra b rc
  | 0x34#7 => .unpkbw ra b rc
  | 0x35#7 => .unpkbl ra b rc
  | 0x36#7 => .pkwb ra b rc
  | 0x37#7 => .pklb ra b rc
  | 0x38#7 => .minsb8 ra b rc
  | 0x39#7 => .minsw4 ra b rc
  | 0x3A#7 => .minub8 ra b rc
  | 0x3B#7 => .minuw4 ra b rc
  | 0x3C#7 => .maxub8 ra b rc
  | 0x3D#7 => .maxuw4 ra b rc
  | 0x3E#7 => .maxsb8 ra b rc
  | 0x3F#7 => .maxsw4 ra b rc
  | 0x70#7 => .ftoit ra b rc
  | 0x78#7 => .ftois ra b rc
  | _ => .unknown w

/-- Primary 0x14, by `func11` (R111). -/
def decodeFloat14 (w : InstrWord) : Instr :=
  let fa := raField w
  let fb := rbField w
  let fc := rcField w
  let fn := func11Field w
  match low6Field fn with
  | 0x04#6 => if fn == 0x004#11 then .itofs fa fb fc else .unknown w
  | 0x0A#6 => if qualifierIn [0, 1, 4, 5] [2, 0] fn then .sqrtf fa fb fn fc else .unknown w
  | 0x0B#6 => if qualifierIn [0, 1, 5, 7] [2, 0, 1, 3] fn then .sqrts fa fb fn fc else .unknown w
  | 0x14#6 => if fn == 0x014#11 then .itoff fa fb fc else .unknown w
  | 0x24#6 => if fn == 0x024#11 then .itoft fa fb fc else .unknown w
  | 0x2A#6 => if qualifierIn [0, 1, 4, 5] [2, 0] fn then .sqrtg fa fb fn fc else .unknown w
  | 0x2B#6 => if qualifierIn [0, 1, 5, 7] [2, 0, 1, 3] fn then .sqrtt fa fb fn fc else .unknown w
  | _ => .unknown w

/-- Primary 0x15, by `func11` (R112). -/
def decodeFloat15 (w : InstrWord) : Instr :=
  let fa := raField w
  let fb := rbField w
  let fc := rcField w
  let fn := func11Field w
  match low6Field fn with
  | 0x00#6 => if qualifierIn [0, 1, 4, 5] [2, 0] fn then .addf fa fb fn fc else .unknown w
  | 0x01#6 => if qualifierIn [0, 1, 4, 5] [2, 0] fn then .subf fa fb fn fc else .unknown w
  | 0x02#6 => if qualifierIn [0, 1, 4, 5] [2, 0] fn then .mulf fa fb fn fc else .unknown w
  | 0x03#6 => if qualifierIn [0, 1, 4, 5] [2, 0] fn then .divf fa fb fn fc else .unknown w
  | 0x1E#6 => if qualifierIn [0, 1, 4, 5] [2, 0] fn then .cvtdg fa fb fn fc else .unknown w
  | 0x20#6 => if qualifierIn [0, 1, 4, 5] [2, 0] fn then .addg fa fb fn fc else .unknown w
  | 0x21#6 => if qualifierIn [0, 1, 4, 5] [2, 0] fn then .subg fa fb fn fc else .unknown w
  | 0x22#6 => if qualifierIn [0, 1, 4, 5] [2, 0] fn then .mulg fa fb fn fc else .unknown w
  | 0x23#6 => if qualifierIn [0, 1, 4, 5] [2, 0] fn then .divg fa fb fn fc else .unknown w
  | 0x25#6 => if qualifierIn [0, 4] [2] fn then .cmpgeq fa fb fn fc else .unknown w
  | 0x26#6 => if qualifierIn [0, 4] [2] fn then .cmpglt fa fb fn fc else .unknown w
  | 0x27#6 => if qualifierIn [0, 4] [2] fn then .cmpgle fa fb fn fc else .unknown w
  | 0x2C#6 => if qualifierIn [0, 1, 4, 5] [2, 0] fn then .cvtgf fa fb fn fc else .unknown w
  | 0x2D#6 => if qualifierIn [0, 1, 4, 5] [2, 0] fn then .cvtgd fa fb fn fc else .unknown w
  | 0x2F#6 => if qualifierIn [0, 1, 4, 5] [2, 0] fn then .cvtgq fa fb fn fc else .unknown w
  | 0x3C#6 => if qualifierIn [0] [2, 0] fn then .cvtqf fa fb fn fc else .unknown w
  | 0x3E#6 => if qualifierIn [0] [2, 0] fn then .cvtqg fa fb fn fc else .unknown w
  | _ => .unknown w

/-- Primary 0x16, by `func11` (R113). -/
def decodeFloat16 (w : InstrWord) : Instr :=
  let fa := raField w
  let fb := rbField w
  let fc := rcField w
  let fn := func11Field w
  match low6Field fn with
  | 0x00#6 => if qualifierIn [0, 1, 5, 7] [2, 0, 1, 3] fn then .adds fa fb fn fc else .unknown w
  | 0x01#6 => if qualifierIn [0, 1, 5, 7] [2, 0, 1, 3] fn then .subs fa fb fn fc else .unknown w
  | 0x02#6 => if qualifierIn [0, 1, 5, 7] [2, 0, 1, 3] fn then .muls fa fb fn fc else .unknown w
  | 0x03#6 => if qualifierIn [0, 1, 5, 7] [2, 0, 1, 3] fn then .divs fa fb fn fc else .unknown w
  | 0x20#6 => if qualifierIn [0, 1, 5, 7] [2, 0, 1, 3] fn then .addt fa fb fn fc else .unknown w
  | 0x21#6 => if qualifierIn [0, 1, 5, 7] [2, 0, 1, 3] fn then .subt fa fb fn fc else .unknown w
  | 0x22#6 => if qualifierIn [0, 1, 5, 7] [2, 0, 1, 3] fn then .mult fa fb fn fc else .unknown w
  | 0x23#6 => if qualifierIn [0, 1, 5, 7] [2, 0, 1, 3] fn then .divt fa fb fn fc else .unknown w
  | 0x24#6 => if qualifierIn [0, 5] [2] fn then .cmptun fa fb fn fc else .unknown w
  | 0x25#6 => if qualifierIn [0, 5] [2] fn then .cmpteq fa fb fn fc else .unknown w
  | 0x26#6 => if qualifierIn [0, 5] [2] fn then .cmptlt fa fb fn fc else .unknown w
  | 0x27#6 => if qualifierIn [0, 5] [2] fn then .cmptle fa fb fn fc else .unknown w
  | 0x2C#6 => if qualifierIn [0, 1, 5, 7] [2, 0, 1, 3] fn then .cvtts fa fb fn fc else if fn == 0x2AC#11 || fn == 0x6AC#11 then .cvtst fa fb fn fc else .unknown w
  | 0x2F#6 => if qualifierIn [0, 1, 5, 7] [2, 0, 1, 3] fn then .cvttq fa fb fn fc else .unknown w
  | 0x3C#6 => if qualifierIn [0, 7] [2, 0, 1, 3] fn then .cvtqs fa fb fn fc else .unknown w
  | 0x3E#6 => if qualifierIn [0, 7] [2, 0, 1, 3] fn then .cvtqt fa fb fn fc else .unknown w
  | _ => .unknown w

/-- Primary 0x17, by `func11` (R114). -/
def decodeFloat17 (w : InstrWord) : Instr :=
  let fa := raField w
  let fb := rbField w
  let fc := rcField w
  let fn := func11Field w
  match fn with
  | 0x010#11 => .cvtlq fa fb fc
  | 0x020#11 => .cpys fa fb fc
  | 0x021#11 => .cpysn fa fb fc
  | 0x022#11 => .cpyse fa fb fc
  | 0x024#11 => .mtFpcr fa fb fc
  | 0x025#11 => .mfFpcr fa fb fc
  | 0x02A#11 => .fcmoveq fa fb fc
  | 0x02B#11 => .fcmovne fa fb fc
  | 0x02C#11 => .fcmovlt fa fb fc
  | 0x02D#11 => .fcmovge fa fb fc
  | 0x02E#11 => .fcmovle fa fb fc
  | 0x02F#11 => .fcmovgt fa fb fc
  | 0x030#11 => .cvtql fa fb fn fc
  | 0x130#11 => .cvtql fa fb fn fc
  | 0x530#11 => .cvtql fa fb fn fc
  | _ => .unknown w

/-- Primary 0x18, by `func16`, exact on all 16 bits (R103). -/
def decodeCompute18 (w : InstrWord) : Instr :=
  let ra := raField w
  let rb := rbField w
  match func16Field w with
  | 0x0000#16 => .trapb ra rb
  | 0x0400#16 => .excb ra rb
  | 0x4000#16 => .mb ra rb
  | 0x4400#16 => .wmb ra rb
  | 0x8000#16 => .fetch ra rb
  | 0xA000#16 => .fetchM ra rb
  | 0xC000#16 => .rpcc ra rb
  | 0xE000#16 => .rc ra rb
  | 0xE800#16 => .ecb ra rb
  | 0xF000#16 => .rs ra rb
  | 0xF800#16 => .wh64 ra rb
  | 0xFC00#16 => .wh64en ra rb
  | _ => .unknown w

/-- Primary 0x1A, by `hint`; all four values are allocated (R104). -/
def decodeJump1A (w : InstrWord) : Instr :=
  let ra := raField w
  let rb := rbField w
  let jdisp := jdispField w
  match hintField w with
  | 0x0#2 => .jmp ra rb jdisp
  | 0x1#2 => .jsr ra rb jdisp
  | 0x2#2 => .ret ra rb jdisp
  | _ => .jsrCoroutine ra rb jdisp

/-- The decoder (R91, R92, R102): the primary opcode, then the secondary field where there is one. All 64 primary
opcodes are listed; the last of them, 0x3F, is the default of the match. -/
def decode (w : InstrWord) : Instr :=
  match opcField w with
  | 0x00#6 => .callPal (low26Field w)
  | 0x01#6 => .opc01 (low26Field w)
  | 0x02#6 => .opc02 (low26Field w)
  | 0x03#6 => .opc03 (low26Field w)
  | 0x04#6 => .opc04 (low26Field w)
  | 0x05#6 => .opc05 (low26Field w)
  | 0x06#6 => .opc06 (low26Field w)
  | 0x07#6 => .opc07 (low26Field w)
  | 0x08#6 => .lda (raField w) (rbField w) (disp16Field w)
  | 0x09#6 => .ldah (raField w) (rbField w) (disp16Field w)
  | 0x0A#6 => .ldbu (raField w) (rbField w) (disp16Field w)
  | 0x0B#6 => .ldqU (raField w) (rbField w) (disp16Field w)
  | 0x0C#6 => .ldwu (raField w) (rbField w) (disp16Field w)
  | 0x0D#6 => .stw (raField w) (rbField w) (disp16Field w)
  | 0x0E#6 => .stb (raField w) (rbField w) (disp16Field w)
  | 0x0F#6 => .stqU (raField w) (rbField w) (disp16Field w)
  | 0x10#6 => decodeOperate10 w
  | 0x11#6 => decodeOperate11 w
  | 0x12#6 => decodeOperate12 w
  | 0x13#6 => decodeOperate13 w
  | 0x14#6 => decodeFloat14 w
  | 0x15#6 => decodeFloat15 w
  | 0x16#6 => decodeFloat16 w
  | 0x17#6 => decodeFloat17 w
  | 0x18#6 => decodeCompute18 w
  | 0x19#6 => .pal19 (low26Field w)
  | 0x1A#6 => decodeJump1A w
  | 0x1B#6 => .pal1b (low26Field w)
  | 0x1C#6 => decodeOperate1C w
  | 0x1D#6 => .pal1d (low26Field w)
  | 0x1E#6 => .pal1e (low26Field w)
  | 0x1F#6 => .pal1f (low26Field w)
  | 0x20#6 => .ldf (raField w) (rbField w) (disp16Field w)
  | 0x21#6 => .ldg (raField w) (rbField w) (disp16Field w)
  | 0x22#6 => .lds (raField w) (rbField w) (disp16Field w)
  | 0x23#6 => .ldt (raField w) (rbField w) (disp16Field w)
  | 0x24#6 => .stf (raField w) (rbField w) (disp16Field w)
  | 0x25#6 => .stg (raField w) (rbField w) (disp16Field w)
  | 0x26#6 => .sts (raField w) (rbField w) (disp16Field w)
  | 0x27#6 => .stt (raField w) (rbField w) (disp16Field w)
  | 0x28#6 => .ldl (raField w) (rbField w) (disp16Field w)
  | 0x29#6 => .ldq (raField w) (rbField w) (disp16Field w)
  | 0x2A#6 => .ldlL (raField w) (rbField w) (disp16Field w)
  | 0x2B#6 => .ldqL (raField w) (rbField w) (disp16Field w)
  | 0x2C#6 => .stl (raField w) (rbField w) (disp16Field w)
  | 0x2D#6 => .stq (raField w) (rbField w) (disp16Field w)
  | 0x2E#6 => .stlC (raField w) (rbField w) (disp16Field w)
  | 0x2F#6 => .stqC (raField w) (rbField w) (disp16Field w)
  | 0x30#6 => .br (raField w) (disp21Field w)
  | 0x31#6 => .fbeq (raField w) (disp21Field w)
  | 0x32#6 => .fblt (raField w) (disp21Field w)
  | 0x33#6 => .fble (raField w) (disp21Field w)
  | 0x34#6 => .bsr (raField w) (disp21Field w)
  | 0x35#6 => .fbne (raField w) (disp21Field w)
  | 0x36#6 => .fbge (raField w) (disp21Field w)
  | 0x37#6 => .fbgt (raField w) (disp21Field w)
  | 0x38#6 => .blbc (raField w) (disp21Field w)
  | 0x39#6 => .beq (raField w) (disp21Field w)
  | 0x3A#6 => .blt (raField w) (disp21Field w)
  | 0x3B#6 => .ble (raField w) (disp21Field w)
  | 0x3C#6 => .blbs (raField w) (disp21Field w)
  | 0x3D#6 => .bne (raField w) (disp21Field w)
  | 0x3E#6 => .bge (raField w) (disp21Field w)
  | _ => .bgt (raField w) (disp21Field w)

/-- The Format of a primary opcode (R92). -/
def formatOf (opc : BitVec 6) : Format :=
  if opc = 0x00#6 then .palCall
  else if opc < 0x08#6 then .unknown
  else if opc < 0x10#6 then .memory
  else if opc < 0x14#6 then .operate
  else if opc < 0x18#6 then .floatingPoint
  else if opc = 0x18#6 then .memoryFormatCompute
  else if opc = 0x1A#6 then .memoryBranch
  else if opc = 0x1C#6 then .operate
  else if opc < 0x20#6 then .unknown
  else if opc < 0x30#6 then .memory
  else .branch

/-- The output of the hardware's decoder, the pair of Opcode and Format (R91). -/
def decodePair (w : InstrWord) : Opcode × Format := ((decode w).opcode, formatOf (opcField w))

/-- Memory format (R96). -/
def memoryWord (opc : BitVec 6) (ra rb : Reg) (disp : BitVec 16) : InstrWord := opc ++ ra ++ rb ++ disp
/-- Branch format (R95). -/
def branchWord (opc : BitVec 6) (ra : Reg) (disp : BitVec 21) : InstrWord := opc ++ ra ++ disp
/-- MemoryBranch format, primary 0x1A (R97). -/
def jumpWord (ra rb : Reg) (hint : BitVec 2) (jdisp : BitVec 14) : InstrWord := 0x1A#6 ++ ra ++ rb ++ hint ++ jdisp
/-- MemoryFormatCompute format, primary 0x18 (R98). -/
def computeWord (ra rb : Reg) (func16 : BitVec 16) : InstrWord := 0x18#6 ++ ra ++ rb ++ func16
/-- Bits 20:12 of an Operate word: operand 2 and `islit` (R99). -/
def Operand2.bits : Operand2 → BitVec 9
  | .reg rb ignored => rb ++ ignored ++ 0#1
  | .lit v => v ++ 1#1
/-- Operate format (R99). -/
def operateWord (opc : BitVec 6) (ra : Reg) (b : Operand2) (func7 : BitVec 7) (rc : Reg) : InstrWord :=
  opc ++ ra ++ b.bits ++ func7 ++ rc
/-- FloatingPoint format (R101). -/
def floatWord (opc : BitVec 6) (fa fb : Reg) (func11 : BitVec 11) (fc : Reg) : InstrWord :=
  opc ++ fa ++ fb ++ func11 ++ fc
/-- PalCall format and the placeholders (R94, R117). -/
def low26Word (opc : BitVec 6) (low : BitVec 26) : InstrWord := opc ++ low

/-- The word of an instruction (R94 to R117). -/
def encode : Instr → InstrWord
  | .lda ra rb disp => memoryWord 0x08 ra rb disp
  | .ldah ra rb disp => memoryWord 0x09 ra rb disp
  | .ldbu ra rb disp => memoryWord 0x0A ra rb disp
  | .ldqU ra rb disp => memoryWord 0x0B ra rb disp
  | .ldwu ra rb disp => memoryWord 0x0C ra rb disp
  | .stw ra rb disp => memoryWord 0x0D ra rb disp
  | .stb ra rb disp => memoryWord 0x0E ra rb disp
  | .stqU ra rb disp => memoryWord 0x0F ra rb disp
  | .ldf fa rb disp => memoryWord 0x20 fa rb disp
  | .ldg fa rb disp => memoryWord 0x21 fa rb disp
  | .lds fa rb disp => memoryWord 0x22 fa rb disp
  | .ldt fa rb disp => memoryWord 0x23 fa rb disp
  | .stf fa rb disp => memoryWord 0x24 fa rb disp
  | .stg fa rb disp => memoryWord 0x25 fa rb disp
  | .sts fa rb disp => memoryWord 0x26 fa rb disp
  | .stt fa rb disp => memoryWord 0x27 fa rb disp
  | .ldl ra rb disp => memoryWord 0x28 ra rb disp
  | .ldq ra rb disp => memoryWord 0x29 ra rb disp
  | .ldlL ra rb disp => memoryWord 0x2A ra rb disp
  | .ldqL ra rb disp => memoryWord 0x2B ra rb disp
  | .stl ra rb disp => memoryWord 0x2C ra rb disp
  | .stq ra rb disp => memoryWord 0x2D ra rb disp
  | .stlC ra rb disp => memoryWord 0x2E ra rb disp
  | .stqC ra rb disp => memoryWord 0x2F ra rb disp
  | .br ra disp => branchWord 0x30 ra disp
  | .fbeq fa disp => branchWord 0x31 fa disp
  | .fblt fa disp => branchWord 0x32 fa disp
  | .fble fa disp => branchWord 0x33 fa disp
  | .bsr ra disp => branchWord 0x34 ra disp
  | .fbne fa disp => branchWord 0x35 fa disp
  | .fbge fa disp => branchWord 0x36 fa disp
  | .fbgt fa disp => branchWord 0x37 fa disp
  | .blbc ra disp => branchWord 0x38 ra disp
  | .beq ra disp => branchWord 0x39 ra disp
  | .blt ra disp => branchWord 0x3A ra disp
  | .ble ra disp => branchWord 0x3B ra disp
  | .blbs ra disp => branchWord 0x3C ra disp
  | .bne ra disp => branchWord 0x3D ra disp
  | .bge ra disp => branchWord 0x3E ra disp
  | .bgt ra disp => branchWord 0x3F ra disp
  | .jmp ra rb jdisp => jumpWord ra rb 0 jdisp
  | .jsr ra rb jdisp => jumpWord ra rb 1 jdisp
  | .ret ra rb jdisp => jumpWord ra rb 2 jdisp
  | .jsrCoroutine ra rb jdisp => jumpWord ra rb 3 jdisp
  | .trapb ra rb => computeWord ra rb 0x0000
  | .excb ra rb => computeWord ra rb 0x0400
  | .mb ra rb => computeWord ra rb 0x4000
  | .wmb ra rb => computeWord ra rb 0x4400
  | .fetch ra rb => computeWord ra rb 0x8000
  | .fetchM ra rb => computeWord ra rb 0xA000
  | .rpcc ra rb => computeWord ra rb 0xC000
  | .rc ra rb => computeWord ra rb 0xE000
  | .ecb ra rb => computeWord ra rb 0xE800
  | .rs ra rb => computeWord ra rb 0xF000
  | .wh64 ra rb => computeWord ra rb 0xF800
  | .wh64en ra rb => computeWord ra rb 0xFC00
  | .addl ra b rc => operateWord 0x10 ra b 0x00 rc
  | .s4addl ra b rc => operateWord 0x10 ra b 0x02 rc
  | .subl ra b rc => operateWord 0x10 ra b 0x09 rc
  | .s4subl ra b rc => operateWord 0x10 ra b 0x0B rc
  | .cmpbge ra b rc => operateWord 0x10 ra b 0x0F rc
  | .s8addl ra b rc => operateWord 0x10 ra b 0x12 rc
  | .s8subl ra b rc => operateWord 0x10 ra b 0x1B rc
  | .cmpult ra b rc => operateWord 0x10 ra b 0x1D rc
  | .addq ra b rc => operateWord 0x10 ra b 0x20 rc
  | .s4addq ra b rc => operateWord 0x10 ra b 0x22 rc
  | .subq ra b rc => operateWord 0x10 ra b 0x29 rc
  | .s4subq ra b rc => operateWord 0x10 ra b 0x2B rc
  | .cmpeq ra b rc => operateWord 0x10 ra b 0x2D rc
  | .s8addq ra b rc => operateWord 0x10 ra b 0x32 rc
  | .s8subq ra b rc => operateWord 0x10 ra b 0x3B rc
  | .cmpule ra b rc => operateWord 0x10 ra b 0x3D rc
  | .addlV ra b rc => operateWord 0x10 ra b 0x40 rc
  | .sublV ra b rc => operateWord 0x10 ra b 0x49 rc
  | .cmplt ra b rc => operateWord 0x10 ra b 0x4D rc
  | .addqV ra b rc => operateWord 0x10 ra b 0x60 rc
  | .subqV ra b rc => operateWord 0x10 ra b 0x69 rc
  | .cmple ra b rc => operateWord 0x10 ra b 0x6D rc
  | .and ra b rc => operateWord 0x11 ra b 0x00 rc
  | .bic ra b rc => operateWord 0x11 ra b 0x08 rc
  | .cmovlbs ra b rc => operateWord 0x11 ra b 0x14 rc
  | .cmovlbc ra b rc => operateWord 0x11 ra b 0x16 rc
  | .bis ra b rc => operateWord 0x11 ra b 0x20 rc
  | .cmoveq ra b rc => operateWord 0x11 ra b 0x24 rc
  | .cmovne ra b rc => operateWord 0x11 ra b 0x26 rc
  | .ornot ra b rc => operateWord 0x11 ra b 0x28 rc
  | .xor ra b rc => operateWord 0x11 ra b 0x40 rc
  | .cmovlt ra b rc => operateWord 0x11 ra b 0x44 rc
  | .cmovge ra b rc => operateWord 0x11 ra b 0x46 rc
  | .eqv ra b rc => operateWord 0x11 ra b 0x48 rc
  | .amask ra b rc => operateWord 0x11 ra b 0x61 rc
  | .cmovle ra b rc => operateWord 0x11 ra b 0x64 rc
  | .cmovgt ra b rc => operateWord 0x11 ra b 0x66 rc
  | .implver ra b rc => operateWord 0x11 ra b 0x6C rc
  | .mskbl ra b rc => operateWord 0x12 ra b 0x02 rc
  | .extbl ra b rc => operateWord 0x12 ra b 0x06 rc
  | .insbl ra b rc => operateWord 0x12 ra b 0x0B rc
  | .mskwl ra b rc => operateWord 0x12 ra b 0x12 rc
  | .extwl ra b rc => operateWord 0x12 ra b 0x16 rc
  | .inswl ra b rc => operateWord 0x12 ra b 0x1B rc
  | .mskll ra b rc => operateWord 0x12 ra b 0x22 rc
  | .extll ra b rc => operateWord 0x12 ra b 0x26 rc
  | .insll ra b rc => operateWord 0x12 ra b 0x2B rc
  | .zap ra b rc => operateWord 0x12 ra b 0x30 rc
  | .zapnot ra b rc => operateWord 0x12 ra b 0x31 rc
  | .mskql ra b rc => operateWord 0x12 ra b 0x32 rc
  | .srl ra b rc => operateWord 0x12 ra b 0x34 rc
  | .extql ra b rc => operateWord 0x12 ra b 0x36 rc
  | .sll ra b rc => operateWord 0x12 ra b 0x39 rc
  | .insql ra b rc => operateWord 0x12 ra b 0x3B rc
  | .sra ra b rc => operateWord 0x12 ra b 0x3C rc
  | .mskwh ra b rc => operateWord 0x12 ra b 0x52 rc
  | .inswh ra b rc => operateWord 0x12 ra b 0x57 rc
  | .extwh ra b rc => operateWord 0x12 ra b 0x5A rc
  | .msklh ra b rc => operateWord 0x12 ra b 0x62 rc
  | .inslh ra b rc => operateWord 0x12 ra b 0x67 rc
  | .extlh ra b rc => operateWord 0x12 ra b 0x6A rc
  | .mskqh ra b rc => operateWord 0x12 ra b 0x72 rc
  | .insqh ra b rc => operateWord 0x12 ra b 0x77 rc
  | .extqh ra b rc => operateWord 0x12 ra b 0x7A rc
  | .mull ra b rc => operateWord 0x13 ra b 0x00 rc
  | .mulq ra b rc => operateWord 0x13 ra b 0x20 rc
  | .umulh ra b rc => operateWord 0x13 ra b 0x30 rc
  | .mullV ra b rc => operateWord 0x13 ra b 0x40 rc
  | .mulqV ra b rc => operateWord 0x13 ra b 0x60 rc
  | .sextb ra b rc => operateWord 0x1C ra b 0x00 rc
  | .sextw ra b rc => operateWord 0x1C ra b 0x01 rc
  | .ctpop ra b rc => operateWord 0x1C ra b 0x30 rc
  | .perr ra b rc => operateWord 0x1C ra b 0x31 rc
  | .ctlz ra b rc => operateWord 0x1C ra b 0x32 rc
  | .cttz ra b rc => operateWord 0x1C ra b 0x33 rc
  | .unpkbw ra b rc => operateWord 0x1C ra b 0x34 rc
  | .unpkbl ra b rc => operateWord 0x1C ra b 0x35 rc
  | .pkwb ra b rc => operateWord 0x1C ra b 0x36 rc
  | .pklb ra b rc => operateWord 0x1C ra b 0x37 rc
  | .minsb8 ra b rc => operateWord 0x1C ra b 0x38 rc
  | .minsw4 ra b rc => operateWord 0x1C ra b 0x39 rc
  | .minub8 ra b rc => operateWord 0x1C ra b 0x3A rc
  | .minuw4 ra b rc => operateWord 0x1C ra b 0x3B rc
  | .maxub8 ra b rc => operateWord 0x1C ra b 0x3C rc
  | .maxuw4 ra b rc => operateWord 0x1C ra b 0x3D rc
  | .maxsb8 ra b rc => operateWord 0x1C ra b 0x3E rc
  | .maxsw4 ra b rc => operateWord 0x1C ra b 0x3F rc
  | .ftoit ra b rc => operateWord 0x1C ra b 0x70 rc
  | .ftois ra b rc => operateWord 0x1C ra b 0x78 rc
  | .callPal palfn => low26Word 0x00 palfn
  | .opc01 low => low26Word 0x01 low
  | .opc02 low => low26Word 0x02 low
  | .opc03 low => low26Word 0x03 low
  | .opc04 low => low26Word 0x04 low
  | .opc05 low => low26Word 0x05 low
  | .opc06 low => low26Word 0x06 low
  | .opc07 low => low26Word 0x07 low
  | .pal19 low => low26Word 0x19 low
  | .pal1b low => low26Word 0x1B low
  | .pal1d low => low26Word 0x1D low
  | .pal1e low => low26Word 0x1E low
  | .pal1f low => low26Word 0x1F low
  | .itofs fa fb fc => floatWord 0x14 fa fb 0x004 fc
  | .itoff fa fb fc => floatWord 0x14 fa fb 0x014 fc
  | .itoft fa fb fc => floatWord 0x14 fa fb 0x024 fc
  | .sqrtf fa fb fn fc => floatWord 0x14 fa fb fn fc
  | .sqrts fa fb fn fc => floatWord 0x14 fa fb fn fc
  | .sqrtg fa fb fn fc => floatWord 0x14 fa fb fn fc
  | .sqrtt fa fb fn fc => floatWord 0x14 fa fb fn fc
  | .addf fa fb fn fc => floatWord 0x15 fa fb fn fc
  | .subf fa fb fn fc => floatWord 0x15 fa fb fn fc
  | .mulf fa fb fn fc => floatWord 0x15 fa fb fn fc
  | .divf fa fb fn fc => floatWord 0x15 fa fb fn fc
  | .cvtdg fa fb fn fc => floatWord 0x15 fa fb fn fc
  | .addg fa fb fn fc => floatWord 0x15 fa fb fn fc
  | .subg fa fb fn fc => floatWord 0x15 fa fb fn fc
  | .mulg fa fb fn fc => floatWord 0x15 fa fb fn fc
  | .divg fa fb fn fc => floatWord 0x15 fa fb fn fc
  | .cmpgeq fa fb fn fc => floatWord 0x15 fa fb fn fc
  | .cmpglt fa fb fn fc => floatWord 0x15 fa fb fn fc
  | .cmpgle fa fb fn fc => floatWord 0x15 fa fb fn fc
  | .cvtgf fa fb fn fc => floatWord 0x15 fa fb fn fc
  | .cvtgd fa fb fn fc => floatWord 0x15 fa fb fn fc
  | .cvtgq fa fb fn fc => floatWord 0x15 fa fb fn fc
  | .cvtqf fa fb fn fc => floatWord 0x15 fa fb fn fc
  | .cvtqg fa fb fn fc => floatWord 0x15 fa fb fn fc
  | .adds fa fb fn fc => floatWord 0x16 fa fb fn fc
  | .subs fa fb fn fc => floatWord 0x16 fa fb fn fc
  | .muls fa fb fn fc => floatWord 0x16 fa fb fn fc
  | .divs fa fb fn fc => floatWord 0x16 fa fb fn fc
  | .addt fa fb fn fc => floatWord 0x16 fa fb fn fc
  | .subt fa fb fn fc => floatWord 0x16 fa fb fn fc
  | .mult fa fb fn fc => floatWord 0x16 fa fb fn fc
  | .divt fa fb fn fc => floatWord 0x16 fa fb fn fc
  | .cmptun fa fb fn fc => floatWord 0x16 fa fb fn fc
  | .cmpteq fa fb fn fc => floatWord 0x16 fa fb fn fc
  | .cmptlt fa fb fn fc => floatWord 0x16 fa fb fn fc
  | .cmptle fa fb fn fc => floatWord 0x16 fa fb fn fc
  | .cvtts fa fb fn fc => floatWord 0x16 fa fb fn fc
  | .cvttq fa fb fn fc => floatWord 0x16 fa fb fn fc
  | .cvtqs fa fb fn fc => floatWord 0x16 fa fb fn fc
  | .cvtqt fa fb fn fc => floatWord 0x16 fa fb fn fc
  | .cvtst fa fb fn fc => floatWord 0x16 fa fb fn fc
  | .cvtlq fa fb fc => floatWord 0x17 fa fb 0x010 fc
  | .cpys fa fb fc => floatWord 0x17 fa fb 0x020 fc
  | .cpysn fa fb fc => floatWord 0x17 fa fb 0x021 fc
  | .cpyse fa fb fc => floatWord 0x17 fa fb 0x022 fc
  | .mtFpcr fa fb fc => floatWord 0x17 fa fb 0x024 fc
  | .mfFpcr fa fb fc => floatWord 0x17 fa fb 0x025 fc
  | .fcmoveq fa fb fc => floatWord 0x17 fa fb 0x02A fc
  | .fcmovne fa fb fc => floatWord 0x17 fa fb 0x02B fc
  | .fcmovlt fa fb fc => floatWord 0x17 fa fb 0x02C fc
  | .fcmovge fa fb fc => floatWord 0x17 fa fb 0x02D fc
  | .fcmovle fa fb fc => floatWord 0x17 fa fb 0x02E fc
  | .fcmovgt fa fb fc => floatWord 0x17 fa fb 0x02F fc
  | .cvtql fa fb fn fc => floatWord 0x17 fa fb fn fc
  | .unknown w => w

/-- The four bytes of a word as the hardware stores them, the least significant at the lowest address (R57 of
20_memory.md, R90). -/
def wordBytes (w : InstrWord) : List Byte :=
  [w.extractLsb' 0 8, w.extractLsb' 8 8, w.extractLsb' 16 8, w.extractLsb' 24 8]

/-- The instruction in four bytes, the lowest address first; any other number of bytes is no instruction (R90). -/
def decodeBytes : List Byte → Option Instr
  | [b0, b1, b2, b3] => some (decode (b3 ++ b2 ++ b1 ++ b0))
  | _ => none

/-- The instruction the decoder reads from an instruction whose low `nbits` bits are `w`, every bit above them 0. -/
def decodeTableWord (nbits w : Nat) : Option Instr :=
  decodeBytes (wordBytes (BitVec.ofNat 32 (w % 2 ^ nbits)))

end Sys2Proof
end

