-- ==== Sys2Proof/Config.lean ====
section
/-! DEFINITION. The parameters of the hardware (R4 of spec/00_scope.md). No free value is needed: the spec leaves
no result open (R153 of 40_step_cycle.md). -/

namespace Sys2Proof

/-- The parameters a model takes as an argument (R4 of 00_scope.md; "Open parameters" of 92_eei_decisions.md).
Bounds of regions are unbounded integers, as R53 of 20_memory.md adds them. -/
structure Config where
  /-- `LOAD_START`, first address of the image region. -/
  loadStart : Nat
  /-- `LOAD_END`, one past the last address of the image region. -/
  loadEnd : Nat
  /-- `IMAGE_INIT`, the image bytes at reset: the bytes that are not zero, by rising address (log entry 5). -/
  imageInit : List Host.Cell
  /-- `STACK_START`, first address of the stack region. -/
  stackStart : Nat
  /-- `TEXT_START`, first address a pc may take. -/
  textStart : Nat
  /-- `TEXT_SIZE`, length in bytes of the text segment. -/
  textSize : Nat
  /-- `ENTRY`, reset value of the pc. -/
  entry : Word
deriving DecidableEq, Repr

/-- `STACK_SIZE`, 1 MiB (R4 of 00_scope.md). -/
def stackSize : Nat := 0x100000

/-- `OUTPUT_ADDR` (R4 of 00_scope.md, R61 of 20_memory.md). -/
def outputAddr : Word := 0x10000000#64

/-- `STACK_END` = `STACK_START + STACK_SIZE`, one past the last stack byte (R4 of 00_scope.md). -/
def Config.stackEnd (c : Config) : Nat := c.stackStart + stackSize

/-- `SENTINEL` = `STACK_END` as a 64-bit value (R4 of 00_scope.md). -/
def Config.sentinel (c : Config) : Word := BitVec.ofNat 64 c.stackEnd

/-- The configuration of `State.reset`. DESIGN CHOICE, unsafe, log entry 2: the spec gives no values; the addresses
are those of configuration A of 95_test_vectors.md, the image is 1 MiB of zero bytes, all of it text. -/
def Config.reference : Config where
  loadStart := 0x2000
  loadEnd := 0x102000
  imageInit := []
  stackStart := 0x07F00000
  textStart := 0x2000
  textSize := 0x100000
  entry := 0x2000#64

end Sys2Proof
end

