-- ==== Sys2Proof/Machine/State.lean ====
section
/-! DEFINITION. The state of the machine (R20 of spec/10_state.md), the fault record (R422 of 60_exceptions.md), the
outcomes of a step, and reset (R38 of 10_state.md, R450 of 70_reset_and_hazards.md). -/

namespace Sys2Proof.Machine

/-- The bytes of the image and stack regions: those that are not zero, by strictly rising address (log entry 5). -/
abbrev Memory := List Host.Cell

/-- The closed list of fault causes (R420 of 60_exceptions.md). -/
inductive Cause where
  | addressError | invalidProgramCounter | unimplementedOpcode
deriving DecidableEq, Repr

/-- The fault record `info` (R422 of 60_exceptions.md). `pc` is the address of the faulting instruction. -/
inductive FaultRecord where
  /-- A memory access that is not admitted (R423); `addr` is the first address of the rejected span. -/
  | addressError (pc addr : Word)
  /-- A pc that is unaligned or outside the text segment, and not the sentinel (R424). -/
  | invalidProgramCounter (pc : Word)
  /-- A decoded instruction with no execution semantics (R426). -/
  | unimplementedOpcode (pc : Word) (opcode : Opcode) (word : InstrWord)
deriving DecidableEq, Repr

/-- The cause of a fault record (R422). -/
def FaultRecord.cause : FaultRecord → Cause
  | .addressError _ _ => .addressError
  | .invalidProgramCounter _ => .invalidProgramCounter
  | .unimplementedOpcode _ _ _ => .unimplementedOpcode

/-- The address of the faulting instruction, which every record carries (R422). -/
def FaultRecord.pc : FaultRecord → Word
  | .addressError pc _ => pc
  | .invalidProgramCounter pc => pc
  | .unimplementedOpcode pc _ _ => pc

/-- The run status (R33 of 10_state.md, R420 of 60_exceptions.md). -/
inductive RunStatus where
  | running
  | halted
  | faulted (info : FaultRecord)
deriving DecidableEq, Repr

/-- The state (R20 of 10_state.md): its six items, with the two regions of memory in the one field `mem`, and the
configuration, which is no state of the hardware and which no step changes (log entry 1). -/
structure State where
  /-- The configuration of the run (R4 of 00_scope.md). -/
  cfg : Config
  /-- The integer register file `x[0..31]` (R21); slot 31 is never written (R22). -/
  regs : Vector Word 32
  /-- The program counter (R25). -/
  pc : Word
  /-- The bytes of the image region and of the stack region (R32). -/
  mem : Memory
  /-- The output stream, oldest byte first (R33). -/
  out : List Byte
  /-- The run status (R33). -/
  status : RunStatus
deriving DecidableEq, Repr

/-- Why no step exists. The hardware's own faults are no `Fault`: they set `status` (R421) and the step that raises
one has a next state (log entry 4). -/
inductive Fault where
  /-- Raised by `step` when the run has halted: "the run is over and no further step exists" (R140 of
  40_step_cycle.md). Safe: the hardware takes no step either. -/
  | runHalted
  /-- Raised by `step` when the run has faulted, with the record of that fault (R140, R421). Safe: the hardware takes
  no step either. -/
  | runFaulted (info : FaultRecord)
deriving DecidableEq, Repr

/-- Why the model gives no meaning. -/
inductive Refusal where
  /-- Raised by an arm of `exec` whose instruction has no meaning yet; no arm does. Safe: the model stops. -/
  | notModelled (mnemonic : String)
  /-- Raised by `step` under a configuration that breaks a constraint of R4 of 00_scope.md: "the hardware is not
  defined for it and a model refuses it" (R453 of 70_reset_and_hazards.md, log entry 3). Safe: the model stops. -/
  | badConfiguration
deriving DecidableEq, Repr

/-- What a step answers. -/
abbrev Outcome := Host.Outcome State Fault Refusal

/-- `Reset(cfg)`: every field at its reset value (R38 of 10_state.md, R450 of 70_reset_and_hazards.md). -/
def State.ofConfig (cfg : Config) : State where
  cfg := cfg
  regs := ((Vector.replicate 32 0#64).set 26 cfg.sentinel).set 30 cfg.sentinel
  pc := cfg.entry
  mem := cfg.imageInit
  out := []
  status := .running

/-- The machine right after reset, under the configuration of log entry 2. -/
def State.reset : State := State.ofConfig Config.reference

end Sys2Proof.Machine
end

