-- ==== Sys2Proof/Machine/Ops.lean ====
section
/-! DEFINITION. The named operations over memory, registers, the output stream and the run status: the pseudocode
primitives of R7 of spec/00_scope.md. There is no return from a fault (R432 of 60_exceptions.md). -/

namespace Sys2Proof

/-- The constraints a configuration must meet (R4 of 00_scope.md): a non-empty image below 2^64, a stack whose end is a
64-bit value, and disjoint regions. -/
abbrev Config.Valid (c : Config) : Prop :=
  c.loadStart < c.loadEnd ∧ c.loadEnd ≤ 2 ^ 64 ∧ c.stackEnd < 2 ^ 64 ∧
    (c.loadEnd ≤ c.stackStart ∨ c.stackEnd ≤ c.loadStart)

/-- The `n` bytes at `addr` lie in the image region (R52 of 20_memory.md). -/
abbrev Config.FitsImage (c : Config) (addr n : Nat) : Prop := c.loadStart ≤ addr ∧ addr + n ≤ c.loadEnd

/-- The `n` bytes at `addr` lie in the stack region (R52 of 20_memory.md). -/
abbrev Config.FitsStack (c : Config) (addr n : Nat) : Prop := c.stackStart ≤ addr ∧ addr + n ≤ c.stackEnd

/-- `Fits(addr, n)`: the access lies wholly inside one region (R52 of 20_memory.md). The sums are unbounded (R53) and
the span is exactly `n` bytes (R55). -/
abbrev Config.Fits (c : Config) (addr n : Nat) : Prop := c.FitsImage addr n ∨ c.FitsStack addr n

/-- `InText(p)`: the four bytes at `p` lie inside the text segment (R141 of 40_step_cycle.md). -/
abbrev Config.InText (c : Config) (p : Word) : Prop :=
  c.textStart ≤ p.toNat ∧ p.toNat + 4 ≤ c.textStart + c.textSize

namespace Machine

/-! ### Memory as a list of bytes by address -/

/-- What an unlisted address reads as: zero, as every stack byte and every image byte no segment covers is at reset
(R38 of 10_state.md, R56 of 20_memory.md, log entry 5). -/
def unlisted : Byte := 0#8

/-- The current byte at an address. -/
def Memory.read : Memory → Nat → Byte
  | [], _ => unlisted
  | (k, b) :: m, a => if k = a then b else Memory.read m a

/-- The list without the entries of one address. -/
def Memory.erase : Memory → Nat → Memory
  | [], _ => []
  | (k, b) :: m, a => if k = a then Memory.erase m a else (k, b) :: Memory.erase m a

/-- The list with one entry put in its place by address. -/
def Memory.insert : Memory → Nat → Byte → Memory
  | [], a, b => [(a, b)]
  | (k, c) :: m, a, b => if a < k then (a, b) :: (k, c) :: m else (k, c) :: Memory.insert m a b

/-- The memory after one byte is written; the value an unlisted address reads as is not listed. -/
def Memory.write (m : Memory) (a : Nat) (b : Byte) : Memory :=
  if b = unlisted then m.erase a else (m.erase a).insert a b

/-- The `n` bytes at `a` as one number, the byte at the lowest address the least significant (R57, R58 of
20_memory.md). -/
def Memory.readLE (m : Memory) (a : Nat) : Nat → Nat
  | 0 => 0
  | n + 1 => (m.read a).toNat + 256 * Memory.readLE m (a + 1) n

/-- The memory after the low `n` bytes of `v` are written at `a`, the least significant at the lowest address (R57,
R59 of 20_memory.md). -/
def Memory.writeLE (m : Memory) (a : Nat) : Nat → Word → Memory
  | 0, _ => m
  | n + 1, v => Memory.writeLE (m.write a (v.setWidth 8)) (a + 1) n (v >>> 8)

/-- The canonical form: addresses strictly rising, and no entry equal to what an unlisted address reads as. -/
def Memory.wf : Memory → Bool
  | [] => true
  | [(_, b)] => b != unlisted
  | (k, b) :: (k', b') :: m => b != unlisted && decide (k < k') && Memory.wf ((k', b') :: m)

/-! ### Registers -/

/-- `x[r]`; register 31 reads zero (R22 of 10_state.md). -/
def State.reg (s : State) (r : Reg) : Word := if r = 31#5 then 0#64 else s.regs[r.toNat]'r.isLt

/-- `x[r] <- v`; a write to register 31 is discarded (R22 of 10_state.md). -/
def State.setReg (s : State) (r : Reg) (v : Word) : State :=
  if r = 31#5 then s else { s with regs := s.regs.set r.toNat v r.isLt }

/-- `pc <- t`. -/
def State.setPc (s : State) (t : Word) : State := { s with pc := t }

/-- `npc`, the incremented pc of the current step, which the pc holds while an instruction acts (R144 of
40_step_cycle.md). -/
def State.npc (s : State) : Word := s.pc

/-- `cur = npc - 4`, the address of the current instruction (R422 of 60_exceptions.md, log entry 6). -/
def State.cur (s : State) : Word := s.pc - 4#64

/-- The pc advance of a step (R144 of 40_step_cycle.md), modulo 2^64 (R27 of 10_state.md). -/
def State.advance (s : State) : State := s.setPc (s.pc + 4#64)

/-! ### Memory accesses and the output stream -/

/-- `MemRead(addr, n)` (R58 of 20_memory.md); no answer is `AddressError(addr)`. -/
def State.memRead (s : State) (addr : Word) (n : Nat) : Option Word :=
  if s.cfg.Fits addr.toNat n then some (BitVec.ofNat 64 (s.mem.readLE addr.toNat n)) else none

/-- `out <- out ++ [b]` (R61 of 20_memory.md). -/
def State.emit (s : State) (b : Byte) : State := { s with out := s.out ++ [b] }

/-- `MemWrite(addr, n, v)` (R59 of 20_memory.md): the output port is tested first (R61), then the span; no answer is
`AddressError(addr)`. -/
def State.memWrite (s : State) (addr : Word) (n : Nat) (v : Word) : Option State :=
  if n = 1 ∧ addr = outputAddr then some (s.emit (v.setWidth 8))
  else if s.cfg.Fits addr.toNat n then some { s with mem := s.mem.writeLE addr.toNat n v }
  else none

/-! ### Ending the run -/

/-- `raise C(info)`: the status becomes Faulted and nothing else changes (R421 of 60_exceptions.md). -/
def State.raise (s : State) (info : FaultRecord) : State := { s with status := .faulted info }

/-- `status <- Halted` (R425 of 60_exceptions.md). -/
def State.halt (s : State) : State := { s with status := .halted }

end Machine

end Sys2Proof
end

