-- ==== Sys2Proof/Machine/Operands.lean ====
section
/-! DEFINITION. The operand forms (R118, R119 of spec/30_encoding.md) and, for each Format, the operation its
instructions share (R149 to R152 of 40_step_cycle.md). -/

namespace Sys2Proof.Machine

/-! ### Immediates -/

/-- `sext_16(disp16)` (R118). -/
def memoryDisp (disp : BitVec 16) : Word := disp.signExtend 64

/-- `(sext_16(disp16) * 65536) mod 2^64`, the high displacement of `ldah` (R118). -/
def highDisp (disp : BitVec 16) : Word := disp.signExtend 64 * 65536#64

/-- `(sext_21(disp21) * 4) mod 2^64`, the branch displacement (R118). -/
def branchDisp (disp : BitVec 21) : Word := disp.signExtend 64 * 4#64

/-- `sext_32(r[31:0])`, the result of a longword operation (R230 of 44_operate_arith.md). -/
def sextLong (r : Word) : Word := (r.setWidth 32).signExtend 64

/-! ### Operand values -/

/-- `bv`, operand 2: a register or the zero-extended literal (R149 of 40_step_cycle.md). -/
def State.operand2 (s : State) : Operand2 → Word
  | .reg rb _ => s.reg rb
  | .lit v => v.setWidth 64

/-- `EA = (x[rb] + sext_16(disp16)) mod 2^64` (R190 of 43_memory.md). -/
def State.effAddr (s : State) (rb : Reg) (disp : BitVec 16) : Word := s.reg rb + memoryDisp disp

/-- `EA & ~7`, the address of the aligned quadword (R203, R209 of 43_memory.md). -/
def alignQuad (ea : Word) : Word := ea &&& ~~~7#64

/-- `T = (npc + sext_21(disp21) * 4) mod 2^64` (R160 of 41_branch.md). -/
def State.branchTarget (s : State) (disp : BitVec 21) : Word := s.npc + branchDisp disp

/-! ### What the instructions of a Format share -/

/-- A decode-only instruction: `raise UnimplementedOpcode(cur, opcode, w)` (R148 of 40_step_cycle.md, R500 of
48_decode_only.md). -/
def unimplemented (i : Instr) (s : State) : Outcome :=
  .next (s.raise (.unimplementedOpcode s.cur i.opcode (encode i)))

/-- An Operate instruction that writes `v` to `rc`; with `rc` = 31 the write is skipped (R150 of 40_step_cycle.md). -/
def operate (rc : Reg) (v : Word) (s : State) : Outcome := .next (s.setReg rc v)

/-- A conditional move: a false condition leaves `x[rc]` untouched (R277 of 45_operate_logical_cmov.md). -/
def condMove (cond : Bool) (b : Operand2) (rc : Reg) (s : State) : Outcome :=
  .next (if cond then s.setReg rc (s.operand2 b) else s)

/-- A load of `n` bytes at `ea`, extended by `ext` (R191 of 43_memory.md); with `ra` = 31 it does nothing, not even
the access (R193). -/
def load (n : Nat) (ext : Word → Word) (ra : Reg) (ea : Word) (s : State) : Outcome :=
  if ra = 31#5 then .next s
  else match s.memRead ea n with
    | some v => .next (s.setReg ra (ext v))
    | none => .next (s.raise (.addressError s.cur ea))

/-- A store of the low `n` bytes of `x[ra]` at `ea` (R192 of 43_memory.md). -/
def store (n : Nat) (ra : Reg) (ea : Word) (s : State) : Outcome :=
  match s.memWrite ea n (s.reg ra) with
  | some s' => .next s'
  | none => .next (s.raise (.addressError s.cur ea))

/-- A conditional branch: `if cond then pc <- T` (R161 of 41_branch.md). -/
def branchIf (cond : Bool) (disp : BitVec 21) (s : State) : Outcome :=
  .next (if cond then s.setPc (s.branchTarget disp) else s)

/-- A transfer of control to `t` with the link `npc` in `ra` (R162 of 41_branch.md, R180 of 42_memory_branch.md); the
target is read before the link is written. -/
def linkAndGo (ra : Reg) (t : Word) (s : State) : Outcome := .next ((s.setReg ra s.npc).setPc t)

end Sys2Proof.Machine
end

