-- ==== Sys2Proof/Machine/Branch.lean ====
section
/-! DEFINITION. The Branch format (spec/41_branch.md), primary opcodes 0x30 to 0x3F. -/

namespace Sys2Proof.Machine

/-- `x[ra] <- npc; pc <- T` (R163). -/
def execBr (ra : Reg) (disp : BitVec 21) (s : State) : Outcome := linkAndGo ra (s.branchTarget disp) s

/-- Decode-only (R174). -/
def execFbeq (fa : Reg) (disp : BitVec 21) (s : State) : Outcome := unimplemented (.fbeq fa disp) s

/-- Decode-only (R175). -/
def execFblt (fa : Reg) (disp : BitVec 21) (s : State) : Outcome := unimplemented (.fblt fa disp) s

/-- Decode-only (R176). -/
def execFble (fa : Reg) (disp : BitVec 21) (s : State) : Outcome := unimplemented (.fble fa disp) s

/-- `x[ra] <- npc; pc <- T` (R164). -/
def execBsr (ra : Reg) (disp : BitVec 21) (s : State) : Outcome := linkAndGo ra (s.branchTarget disp) s

/-- Decode-only (R177). -/
def execFbne (fa : Reg) (disp : BitVec 21) (s : State) : Outcome := unimplemented (.fbne fa disp) s

/-- Decode-only (R178). -/
def execFbge (fa : Reg) (disp : BitVec 21) (s : State) : Outcome := unimplemented (.fbge fa disp) s

/-- Decode-only (R179). -/
def execFbgt (fa : Reg) (disp : BitVec 21) (s : State) : Outcome := unimplemented (.fbgt fa disp) s

/-- `if x[ra][0] = 0 then pc <- T` (R171). -/
def execBlbc (ra : Reg) (disp : BitVec 21) (s : State) : Outcome := branchIf (!lowBitSet (s.reg ra)) disp s

/-- `if x[ra] = 0 then pc <- T` (R165). -/
def execBeq (ra : Reg) (disp : BitVec 21) (s : State) : Outcome := branchIf (isZero (s.reg ra)) disp s

/-- `if signed(x[ra]) < 0 then pc <- T` (R167). -/
def execBlt (ra : Reg) (disp : BitVec 21) (s : State) : Outcome := branchIf (isNegative (s.reg ra)) disp s

/-- `if signed(x[ra]) <= 0 then pc <- T` (R168). -/
def execBle (ra : Reg) (disp : BitVec 21) (s : State) : Outcome := branchIf (isNotPositive (s.reg ra)) disp s

/-- `if x[ra][0] = 1 then pc <- T` (R172). -/
def execBlbs (ra : Reg) (disp : BitVec 21) (s : State) : Outcome := branchIf (lowBitSet (s.reg ra)) disp s

/-- `if x[ra] != 0 then pc <- T` (R166). -/
def execBne (ra : Reg) (disp : BitVec 21) (s : State) : Outcome := branchIf (!isZero (s.reg ra)) disp s

/-- `if signed(x[ra]) >= 0 then pc <- T` (R170). -/
def execBge (ra : Reg) (disp : BitVec 21) (s : State) : Outcome := branchIf (isNotNegative (s.reg ra)) disp s

/-- `if signed(x[ra]) > 0 then pc <- T` (R169). -/
def execBgt (ra : Reg) (disp : BitVec 21) (s : State) : Outcome := branchIf (isPositive (s.reg ra)) disp s

end Sys2Proof.Machine
end

