-- ==== Sys2Proof/Machine/DecodeOnly.lean ====
section
/-! DEFINITION. The Formats with no execution semantics (spec/48_decode_only.md): each instruction raises
`UnimplementedOpcode(cur, opcode, w)` and does nothing else (R500). -/

namespace Sys2Proof.Machine

/-- Decode-only (R515). -/
def execTrapb (ra rb : Reg) (s : State) : Outcome := unimplemented (.trapb ra rb) s

/-- Decode-only (R516). -/
def execExcb (ra rb : Reg) (s : State) : Outcome := unimplemented (.excb ra rb) s

/-- Decode-only (R517). -/
def execMb (ra rb : Reg) (s : State) : Outcome := unimplemented (.mb ra rb) s

/-- Decode-only (R518). -/
def execWmb (ra rb : Reg) (s : State) : Outcome := unimplemented (.wmb ra rb) s

/-- Decode-only (R519). -/
def execFetch (ra rb : Reg) (s : State) : Outcome := unimplemented (.fetch ra rb) s

/-- Decode-only (R520). -/
def execFetchM (ra rb : Reg) (s : State) : Outcome := unimplemented (.fetchM ra rb) s

/-- Decode-only (R521). -/
def execRpcc (ra rb : Reg) (s : State) : Outcome := unimplemented (.rpcc ra rb) s

/-- Decode-only (R522). -/
def execRc (ra rb : Reg) (s : State) : Outcome := unimplemented (.rc ra rb) s

/-- Decode-only (R523). -/
def execEcb (ra rb : Reg) (s : State) : Outcome := unimplemented (.ecb ra rb) s

/-- Decode-only (R524). -/
def execRs (ra rb : Reg) (s : State) : Outcome := unimplemented (.rs ra rb) s

/-- Decode-only (R525). -/
def execWh64 (ra rb : Reg) (s : State) : Outcome := unimplemented (.wh64 ra rb) s

/-- Decode-only (R526). -/
def execWh64en (ra rb : Reg) (s : State) : Outcome := unimplemented (.wh64en ra rb) s

/-- Decode-only (R501). -/
def execCallPal (palfn : BitVec 26) (s : State) : Outcome := unimplemented (.callPal palfn) s

/-- Decode-only (R502). -/
def execOpc01 (low : BitVec 26) (s : State) : Outcome := unimplemented (.opc01 low) s

/-- Decode-only (R503). -/
def execOpc02 (low : BitVec 26) (s : State) : Outcome := unimplemented (.opc02 low) s

/-- Decode-only (R504). -/
def execOpc03 (low : BitVec 26) (s : State) : Outcome := unimplemented (.opc03 low) s

/-- Decode-only (R505). -/
def execOpc04 (low : BitVec 26) (s : State) : Outcome := unimplemented (.opc04 low) s

/-- Decode-only (R506). -/
def execOpc05 (low : BitVec 26) (s : State) : Outcome := unimplemented (.opc05 low) s

/-- Decode-only (R507). -/
def execOpc06 (low : BitVec 26) (s : State) : Outcome := unimplemented (.opc06 low) s

/-- Decode-only (R508). -/
def execOpc07 (low : BitVec 26) (s : State) : Outcome := unimplemented (.opc07 low) s

/-- Decode-only (R509). -/
def execPal19 (low : BitVec 26) (s : State) : Outcome := unimplemented (.pal19 low) s

/-- Decode-only (R510). -/
def execPal1b (low : BitVec 26) (s : State) : Outcome := unimplemented (.pal1b low) s

/-- Decode-only (R511). -/
def execPal1d (low : BitVec 26) (s : State) : Outcome := unimplemented (.pal1d low) s

/-- Decode-only (R512). -/
def execPal1e (low : BitVec 26) (s : State) : Outcome := unimplemented (.pal1e low) s

/-- Decode-only (R513). -/
def execPal1f (low : BitVec 26) (s : State) : Outcome := unimplemented (.pal1f low) s

/-- Decode-only (R531). -/
def execItofs (fa fb fc : Reg) (s : State) : Outcome := unimplemented (.itofs fa fb fc) s

/-- Decode-only (R532). -/
def execItoff (fa fb fc : Reg) (s : State) : Outcome := unimplemented (.itoff fa fb fc) s

/-- Decode-only (R533). -/
def execItoft (fa fb fc : Reg) (s : State) : Outcome := unimplemented (.itoft fa fb fc) s

/-- Decode-only (R534). -/
def execSqrtf (fa fb : Reg) (fn : BitVec 11) (fc : Reg) (s : State) : Outcome := unimplemented (.sqrtf fa fb fn fc) s

/-- Decode-only (R536). -/
def execSqrts (fa fb : Reg) (fn : BitVec 11) (fc : Reg) (s : State) : Outcome := unimplemented (.sqrts fa fb fn fc) s

/-- Decode-only (R535). -/
def execSqrtg (fa fb : Reg) (fn : BitVec 11) (fc : Reg) (s : State) : Outcome := unimplemented (.sqrtg fa fb fn fc) s

/-- Decode-only (R537). -/
def execSqrtt (fa fb : Reg) (fn : BitVec 11) (fc : Reg) (s : State) : Outcome := unimplemented (.sqrtt fa fb fn fc) s

/-- Decode-only (R538). -/
def execAddf (fa fb : Reg) (fn : BitVec 11) (fc : Reg) (s : State) : Outcome := unimplemented (.addf fa fb fn fc) s

/-- Decode-only (R539). -/
def execSubf (fa fb : Reg) (fn : BitVec 11) (fc : Reg) (s : State) : Outcome := unimplemented (.subf fa fb fn fc) s

/-- Decode-only (R540). -/
def execMulf (fa fb : Reg) (fn : BitVec 11) (fc : Reg) (s : State) : Outcome := unimplemented (.mulf fa fb fn fc) s

/-- Decode-only (R541). -/
def execDivf (fa fb : Reg) (fn : BitVec 11) (fc : Reg) (s : State) : Outcome := unimplemented (.divf fa fb fn fc) s

/-- Decode-only (R542). -/
def execCvtdg (fa fb : Reg) (fn : BitVec 11) (fc : Reg) (s : State) : Outcome := unimplemented (.cvtdg fa fb fn fc) s

/-- Decode-only (R543). -/
def execAddg (fa fb : Reg) (fn : BitVec 11) (fc : Reg) (s : State) : Outcome := unimplemented (.addg fa fb fn fc) s

/-- Decode-only (R544). -/
def execSubg (fa fb : Reg) (fn : BitVec 11) (fc : Reg) (s : State) : Outcome := unimplemented (.subg fa fb fn fc) s

/-- Decode-only (R545). -/
def execMulg (fa fb : Reg) (fn : BitVec 11) (fc : Reg) (s : State) : Outcome := unimplemented (.mulg fa fb fn fc) s

/-- Decode-only (R546). -/
def execDivg (fa fb : Reg) (fn : BitVec 11) (fc : Reg) (s : State) : Outcome := unimplemented (.divg fa fb fn fc) s

/-- Decode-only (R552). -/
def execCmpgeq (fa fb : Reg) (fn : BitVec 11) (fc : Reg) (s : State) : Outcome :=
  unimplemented (.cmpgeq fa fb fn fc) s

/-- Decode-only (R553). -/
def execCmpglt (fa fb : Reg) (fn : BitVec 11) (fc : Reg) (s : State) : Outcome :=
  unimplemented (.cmpglt fa fb fn fc) s

/-- Decode-only (R554). -/
def execCmpgle (fa fb : Reg) (fn : BitVec 11) (fc : Reg) (s : State) : Outcome :=
  unimplemented (.cmpgle fa fb fn fc) s

/-- Decode-only (R547). -/
def execCvtgf (fa fb : Reg) (fn : BitVec 11) (fc : Reg) (s : State) : Outcome := unimplemented (.cvtgf fa fb fn fc) s

/-- Decode-only (R548). -/
def execCvtgd (fa fb : Reg) (fn : BitVec 11) (fc : Reg) (s : State) : Outcome := unimplemented (.cvtgd fa fb fn fc) s

/-- Decode-only (R549). -/
def execCvtgq (fa fb : Reg) (fn : BitVec 11) (fc : Reg) (s : State) : Outcome := unimplemented (.cvtgq fa fb fn fc) s

/-- Decode-only (R550). -/
def execCvtqf (fa fb : Reg) (fn : BitVec 11) (fc : Reg) (s : State) : Outcome := unimplemented (.cvtqf fa fb fn fc) s

/-- Decode-only (R551). -/
def execCvtqg (fa fb : Reg) (fn : BitVec 11) (fc : Reg) (s : State) : Outcome := unimplemented (.cvtqg fa fb fn fc) s

/-- Decode-only (R555). -/
def execAdds (fa fb : Reg) (fn : BitVec 11) (fc : Reg) (s : State) : Outcome := unimplemented (.adds fa fb fn fc) s

/-- Decode-only (R556). -/
def execSubs (fa fb : Reg) (fn : BitVec 11) (fc : Reg) (s : State) : Outcome := unimplemented (.subs fa fb fn fc) s

/-- Decode-only (R557). -/
def execMuls (fa fb : Reg) (fn : BitVec 11) (fc : Reg) (s : State) : Outcome := unimplemented (.muls fa fb fn fc) s

/-- Decode-only (R558). -/
def execDivs (fa fb : Reg) (fn : BitVec 11) (fc : Reg) (s : State) : Outcome := unimplemented (.divs fa fb fn fc) s

/-- Decode-only (R559). -/
def execAddt (fa fb : Reg) (fn : BitVec 11) (fc : Reg) (s : State) : Outcome := unimplemented (.addt fa fb fn fc) s

/-- Decode-only (R560). -/
def execSubt (fa fb : Reg) (fn : BitVec 11) (fc : Reg) (s : State) : Outcome := unimplemented (.subt fa fb fn fc) s

/-- Decode-only (R561). -/
def execMult (fa fb : Reg) (fn : BitVec 11) (fc : Reg) (s : State) : Outcome := unimplemented (.mult fa fb fn fc) s

/-- Decode-only (R562). -/
def execDivt (fa fb : Reg) (fn : BitVec 11) (fc : Reg) (s : State) : Outcome := unimplemented (.divt fa fb fn fc) s

/-- Decode-only (R567). -/
def execCmptun (fa fb : Reg) (fn : BitVec 11) (fc : Reg) (s : State) : Outcome :=
  unimplemented (.cmptun fa fb fn fc) s

/-- Decode-only (R568). -/
def execCmpteq (fa fb : Reg) (fn : BitVec 11) (fc : Reg) (s : State) : Outcome :=
  unimplemented (.cmpteq fa fb fn fc) s

/-- Decode-only (R569). -/
def execCmptlt (fa fb : Reg) (fn : BitVec 11) (fc : Reg) (s : State) : Outcome :=
  unimplemented (.cmptlt fa fb fn fc) s

/-- Decode-only (R570). -/
def execCmptle (fa fb : Reg) (fn : BitVec 11) (fc : Reg) (s : State) : Outcome :=
  unimplemented (.cmptle fa fb fn fc) s

/-- Decode-only (R563). -/
def execCvtts (fa fb : Reg) (fn : BitVec 11) (fc : Reg) (s : State) : Outcome := unimplemented (.cvtts fa fb fn fc) s

/-- Decode-only (R564). -/
def execCvttq (fa fb : Reg) (fn : BitVec 11) (fc : Reg) (s : State) : Outcome := unimplemented (.cvttq fa fb fn fc) s

/-- Decode-only (R565). -/
def execCvtqs (fa fb : Reg) (fn : BitVec 11) (fc : Reg) (s : State) : Outcome := unimplemented (.cvtqs fa fb fn fc) s

/-- Decode-only (R566). -/
def execCvtqt (fa fb : Reg) (fn : BitVec 11) (fc : Reg) (s : State) : Outcome := unimplemented (.cvtqt fa fb fn fc) s

/-- Decode-only (R571). -/
def execCvtst (fa fb : Reg) (fn : BitVec 11) (fc : Reg) (s : State) : Outcome := unimplemented (.cvtst fa fb fn fc) s

/-- Decode-only (R572). -/
def execCvtlq (fa fb fc : Reg) (s : State) : Outcome := unimplemented (.cvtlq fa fb fc) s

/-- Decode-only (R573). -/
def execCpys (fa fb fc : Reg) (s : State) : Outcome := unimplemented (.cpys fa fb fc) s

/-- Decode-only (R574). -/
def execCpysn (fa fb fc : Reg) (s : State) : Outcome := unimplemented (.cpysn fa fb fc) s

/-- Decode-only (R575). -/
def execCpyse (fa fb fc : Reg) (s : State) : Outcome := unimplemented (.cpyse fa fb fc) s

/-- Decode-only (R576). -/
def execMtFpcr (fa fb fc : Reg) (s : State) : Outcome := unimplemented (.mtFpcr fa fb fc) s

/-- Decode-only (R577). -/
def execMfFpcr (fa fb fc : Reg) (s : State) : Outcome := unimplemented (.mfFpcr fa fb fc) s

/-- Decode-only (R578). -/
def execFcmoveq (fa fb fc : Reg) (s : State) : Outcome := unimplemented (.fcmoveq fa fb fc) s

/-- Decode-only (R579). -/
def execFcmovne (fa fb fc : Reg) (s : State) : Outcome := unimplemented (.fcmovne fa fb fc) s

/-- Decode-only (R580). -/
def execFcmovlt (fa fb fc : Reg) (s : State) : Outcome := unimplemented (.fcmovlt fa fb fc) s

/-- Decode-only (R581). -/
def execFcmovge (fa fb fc : Reg) (s : State) : Outcome := unimplemented (.fcmovge fa fb fc) s

/-- Decode-only (R582). -/
def execFcmovle (fa fb fc : Reg) (s : State) : Outcome := unimplemented (.fcmovle fa fb fc) s

/-- Decode-only (R583). -/
def execFcmovgt (fa fb fc : Reg) (s : State) : Outcome := unimplemented (.fcmovgt fa fb fc) s

/-- Decode-only (R584). -/
def execCvtql (fa fb : Reg) (fn : BitVec 11) (fc : Reg) (s : State) : Outcome := unimplemented (.cvtql fa fb fn fc) s

/-- Decode-only (R527). -/
def execUnknown (w : InstrWord) (s : State) : Outcome := unimplemented (.unknown w) s

end Sys2Proof.Machine
end

