-- ==== Sys2Proof/Machine/LoadStore.lean ====
section
/-! DEFINITION. The Memory format (spec/43_memory.md), primary opcodes 0x08 to 0x0F and 0x20 to 0x2F. -/

namespace Sys2Proof.Machine

/-- `x[ra] <- (x[rb] + sext_16(disp16)) mod 2^64` (R195). -/
def execLda (ra rb : Reg) (disp : BitVec 16) (s : State) : Outcome := .next (s.setReg ra (s.reg rb + memoryDisp disp))

/-- `x[ra] <- (x[rb] + sext_16(disp16) * 65536) mod 2^64` (R196). -/
def execLdah (ra rb : Reg) (disp : BitVec 16) (s : State) : Outcome := .next (s.setReg ra (s.reg rb + highDisp disp))

/-- `if ra != 31 then x[ra] <- zext_8(MemRead(EA, 1))` (R197). -/
def execLdbu (ra rb : Reg) (disp : BitVec 16) (s : State) : Outcome :=
  load 1 (fun v => (v.setWidth 8).setWidth 64) ra (s.effAddr rb disp) s

/-- `if ra != 31 then x[ra] <- MemRead(EA & ~7, 8)` (R203). -/
def execLdqU (ra rb : Reg) (disp : BitVec 16) (s : State) : Outcome := load 8 id ra (alignQuad (s.effAddr rb disp)) s

/-- `if ra != 31 then x[ra] <- zext_16(MemRead(EA, 2))` (R198). -/
def execLdwu (ra rb : Reg) (disp : BitVec 16) (s : State) : Outcome :=
  load 2 (fun v => (v.setWidth 16).setWidth 64) ra (s.effAddr rb disp) s

/-- `MemWrite(EA, 2, x[ra])` (R206). -/
def execStw (ra rb : Reg) (disp : BitVec 16) (s : State) : Outcome := store 2 ra (s.effAddr rb disp) s

/-- `MemWrite(EA, 1, x[ra])`, which at `OUTPUT_ADDR` appends to `out` (R205). -/
def execStb (ra rb : Reg) (disp : BitVec 16) (s : State) : Outcome := store 1 ra (s.effAddr rb disp) s

/-- `MemWrite(EA & ~7, 8, x[ra])` (R209). -/
def execStqU (ra rb : Reg) (disp : BitVec 16) (s : State) : Outcome := store 8 ra (alignQuad (s.effAddr rb disp)) s

/-- Decode-only (R216). -/
def execLdf (fa rb : Reg) (disp : BitVec 16) (s : State) : Outcome := unimplemented (.ldf fa rb disp) s

/-- Decode-only (R217). -/
def execLdg (fa rb : Reg) (disp : BitVec 16) (s : State) : Outcome := unimplemented (.ldg fa rb disp) s

/-- `if ra = 31 then (nothing) else raise UnimplementedOpcode(cur, lds, w)` (R214). -/
def execLds (fa rb : Reg) (disp : BitVec 16) (s : State) : Outcome :=
  if fa = 31#5 then .next s else unimplemented (.lds fa rb disp) s

/-- `if ra = 31 then (nothing) else raise UnimplementedOpcode(cur, ldt, w)` (R215). -/
def execLdt (fa rb : Reg) (disp : BitVec 16) (s : State) : Outcome :=
  if fa = 31#5 then .next s else unimplemented (.ldt fa rb disp) s

/-- Decode-only (R218). -/
def execStf (fa rb : Reg) (disp : BitVec 16) (s : State) : Outcome := unimplemented (.stf fa rb disp) s

/-- Decode-only (R219). -/
def execStg (fa rb : Reg) (disp : BitVec 16) (s : State) : Outcome := unimplemented (.stg fa rb disp) s

/-- Decode-only (R220). -/
def execSts (fa rb : Reg) (disp : BitVec 16) (s : State) : Outcome := unimplemented (.sts fa rb disp) s

/-- Decode-only (R221). -/
def execStt (fa rb : Reg) (disp : BitVec 16) (s : State) : Outcome := unimplemented (.stt fa rb disp) s

/-- `if ra != 31 then x[ra] <- sext_32(MemRead(EA, 4))` (R199). -/
def execLdl (ra rb : Reg) (disp : BitVec 16) (s : State) : Outcome := load 4 sextLong ra (s.effAddr rb disp) s

/-- `if ra != 31 then x[ra] <- MemRead(EA, 8)` (R200). -/
def execLdq (ra rb : Reg) (disp : BitVec 16) (s : State) : Outcome := load 8 id ra (s.effAddr rb disp) s

/-- Decode-only (R210). -/
def execLdlL (ra rb : Reg) (disp : BitVec 16) (s : State) : Outcome := unimplemented (.ldlL ra rb disp) s

/-- Decode-only (R211). -/
def execLdqL (ra rb : Reg) (disp : BitVec 16) (s : State) : Outcome := unimplemented (.ldqL ra rb disp) s

/-- `MemWrite(EA, 4, x[ra])` (R207). -/
def execStl (ra rb : Reg) (disp : BitVec 16) (s : State) : Outcome := store 4 ra (s.effAddr rb disp) s

/-- `MemWrite(EA, 8, x[ra])` (R208). -/
def execStq (ra rb : Reg) (disp : BitVec 16) (s : State) : Outcome := store 8 ra (s.effAddr rb disp) s

/-- Decode-only (R212). -/
def execStlC (ra rb : Reg) (disp : BitVec 16) (s : State) : Outcome := unimplemented (.stlC ra rb disp) s

/-- Decode-only (R213). -/
def execStqC (ra rb : Reg) (disp : BitVec 16) (s : State) : Outcome := unimplemented (.stqC ra rb disp) s

end Sys2Proof.Machine
end

