-- ==== Sys2Proof/Machine/MemoryBranch.lean ====
section
/-! DEFINITION. The MemoryBranch format (spec/42_memory_branch.md), primary opcode 0x1A. The four jumps act
alike (R180); `jdisp` and the hint have no effect. -/

namespace Sys2Proof.Machine

/-- `t <- x[rb]; x[ra] <- npc; pc <- t` (R181). -/
def execJmp (ra rb : Reg) (_jdisp : BitVec 14) (s : State) : Outcome := linkAndGo ra (s.reg rb) s

/-- `t <- x[rb]; x[ra] <- npc; pc <- t` (R182). -/
def execJsr (ra rb : Reg) (_jdisp : BitVec 14) (s : State) : Outcome := linkAndGo ra (s.reg rb) s

/-- `t <- x[rb]; x[ra] <- npc; pc <- t` (R183). -/
def execRet (ra rb : Reg) (_jdisp : BitVec 14) (s : State) : Outcome := linkAndGo ra (s.reg rb) s

/-- `t <- x[rb]; x[ra] <- npc; pc <- t` (R184). -/
def execJsrCoroutine (ra rb : Reg) (_jdisp : BitVec 14) (s : State) : Outcome := linkAndGo ra (s.reg rb) s

end Sys2Proof.Machine
end

