-- ==== Sys2Proof/Machine/OperateArith.lean ====
section
/-! DEFINITION. Add, subtract, compare and multiply (spec/44_operate_arith.md), primary opcodes 0x10 and 0x13. -/

namespace Sys2Proof.Machine

/-- Byte `i` of a value. -/
def byteOf (i : Nat) (v : Word) : BitVec 8 := v.extractLsb' (8 * i) 8

/-- The sum over the `n` low bytes of `2^i` where byte `i` of `av` is at least that of `bv` (R243). -/
def bytesGe (av bv : Word) : Nat → Word
  | 0 => 0#64
  | n + 1 => bytesGe av bv n + (if (byteOf n bv).ule (byteOf n av) then BitVec.ofNat 64 (2 ^ n) else 0#64)

/-- Bits 127:64 of the unsigned product (R252). -/
def mulHigh (av bv : Word) : Word := BitVec.ofNat 64 (av.toNat * bv.toNat / 2 ^ 64)

/-- `x[rc] <- sext_32((av + bv)[31:0])` (R231). -/
def execAddl (ra : Reg) (b : Operand2) (rc : Reg) (s : State) : Outcome :=
  operate rc (sextLong (s.reg ra + s.operand2 b)) s

/-- `x[rc] <- sext_32((av * 4 + bv)[31:0])` (R232). -/
def execS4addl (ra : Reg) (b : Operand2) (rc : Reg) (s : State) : Outcome :=
  operate rc (sextLong (s.reg ra * 4#64 + s.operand2 b)) s

/-- `x[rc] <- sext_32((av - bv)[31:0])` (R234). -/
def execSubl (ra : Reg) (b : Operand2) (rc : Reg) (s : State) : Outcome :=
  operate rc (sextLong (s.reg ra - s.operand2 b)) s

/-- `x[rc] <- sext_32((av * 4 - bv)[31:0])` (R235). -/
def execS4subl (ra : Reg) (b : Operand2) (rc : Reg) (s : State) : Outcome :=
  operate rc (sextLong (s.reg ra * 4#64 - s.operand2 b)) s

/-- `x[rc] <- sum over i in 0..7 of (if av[8i+7:8i] >= bv[8i+7:8i] (unsigned) then 2^i else 0)` (R243). -/
def execCmpbge (ra : Reg) (b : Operand2) (rc : Reg) (s : State) : Outcome :=
  operate rc (bytesGe (s.reg ra) (s.operand2 b) 8) s

/-- `x[rc] <- sext_32((av * 8 + bv)[31:0])` (R233). -/
def execS8addl (ra : Reg) (b : Operand2) (rc : Reg) (s : State) : Outcome :=
  operate rc (sextLong (s.reg ra * 8#64 + s.operand2 b)) s

/-- `x[rc] <- sext_32((av * 8 - bv)[31:0])` (R236). -/
def execS8subl (ra : Reg) (b : Operand2) (rc : Reg) (s : State) : Outcome :=
  operate rc (sextLong (s.reg ra * 8#64 - s.operand2 b)) s

/-- `x[rc] <- (if av < bv then 1 else 0)` (R248). -/
def execCmpult (ra : Reg) (b : Operand2) (rc : Reg) (s : State) : Outcome :=
  operate rc (truth ((s.reg ra).ult (s.operand2 b))) s

/-- `x[rc] <- (av + bv) mod 2^64` (R237). -/
def execAddq (ra : Reg) (b : Operand2) (rc : Reg) (s : State) : Outcome := operate rc (s.reg ra + s.operand2 b) s

/-- `x[rc] <- (av * 4 + bv) mod 2^64` (R238). -/
def execS4addq (ra : Reg) (b : Operand2) (rc : Reg) (s : State) : Outcome :=
  operate rc (s.reg ra * 4#64 + s.operand2 b) s

/-- `x[rc] <- (av - bv) mod 2^64` (R240). -/
def execSubq (ra : Reg) (b : Operand2) (rc : Reg) (s : State) : Outcome := operate rc (s.reg ra - s.operand2 b) s

/-- `x[rc] <- (av * 4 - bv) mod 2^64` (R241). -/
def execS4subq (ra : Reg) (b : Operand2) (rc : Reg) (s : State) : Outcome :=
  operate rc (s.reg ra * 4#64 - s.operand2 b) s

/-- `x[rc] <- (if av = bv then 1 else 0)` (R245). -/
def execCmpeq (ra : Reg) (b : Operand2) (rc : Reg) (s : State) : Outcome :=
  operate rc (truth (s.reg ra == s.operand2 b)) s

/-- `x[rc] <- (av * 8 + bv) mod 2^64` (R239). -/
def execS8addq (ra : Reg) (b : Operand2) (rc : Reg) (s : State) : Outcome :=
  operate rc (s.reg ra * 8#64 + s.operand2 b) s

/-- `x[rc] <- (av * 8 - bv) mod 2^64` (R242). -/
def execS8subq (ra : Reg) (b : Operand2) (rc : Reg) (s : State) : Outcome :=
  operate rc (s.reg ra * 8#64 - s.operand2 b) s

/-- `x[rc] <- (if av <= bv then 1 else 0)` (R249). -/
def execCmpule (ra : Reg) (b : Operand2) (rc : Reg) (s : State) : Outcome :=
  operate rc (truth ((s.reg ra).ule (s.operand2 b))) s

/-- Decode-only (R254). -/
def execAddlV (ra : Reg) (b : Operand2) (rc : Reg) (s : State) : Outcome := unimplemented (.addlV ra b rc) s

/-- Decode-only (R255). -/
def execSublV (ra : Reg) (b : Operand2) (rc : Reg) (s : State) : Outcome := unimplemented (.sublV ra b rc) s

/-- `x[rc] <- (if signed(av) < signed(bv) then 1 else 0)` (R246). -/
def execCmplt (ra : Reg) (b : Operand2) (rc : Reg) (s : State) : Outcome :=
  operate rc (truth ((s.reg ra).slt (s.operand2 b))) s

/-- Decode-only (R256). -/
def execAddqV (ra : Reg) (b : Operand2) (rc : Reg) (s : State) : Outcome := unimplemented (.addqV ra b rc) s

/-- Decode-only (R257). -/
def execSubqV (ra : Reg) (b : Operand2) (rc : Reg) (s : State) : Outcome := unimplemented (.subqV ra b rc) s

/-- `x[rc] <- (if signed(av) <= signed(bv) then 1 else 0)` (R247). -/
def execCmple (ra : Reg) (b : Operand2) (rc : Reg) (s : State) : Outcome :=
  operate rc (truth ((s.reg ra).sle (s.operand2 b))) s

/-- `x[rc] <- sext_32((av * bv)[31:0])` (R250). -/
def execMull (ra : Reg) (b : Operand2) (rc : Reg) (s : State) : Outcome :=
  operate rc (sextLong (s.reg ra * s.operand2 b)) s

/-- `x[rc] <- (av * bv) mod 2^64` (R251). -/
def execMulq (ra : Reg) (b : Operand2) (rc : Reg) (s : State) : Outcome := operate rc (s.reg ra * s.operand2 b) s

/-- `x[rc] <- ((av * bv) div 2^64)` (R252). -/
def execUmulh (ra : Reg) (b : Operand2) (rc : Reg) (s : State) : Outcome :=
  operate rc (mulHigh (s.reg ra) (s.operand2 b)) s

/-- Decode-only (R258). -/
def execMullV (ra : Reg) (b : Operand2) (rc : Reg) (s : State) : Outcome := unimplemented (.mullV ra b rc) s

/-- Decode-only (R259). -/
def execMulqV (ra : Reg) (b : Operand2) (rc : Reg) (s : State) : Outcome := unimplemented (.mulqV ra b rc) s

end Sys2Proof.Machine
end

