-- ==== Sys2Proof/Machine/OperateExt.lean ====
section
/-! DEFINITION. The extension group (spec/47_operate_ext_1c.md), primary opcode 0x1C. -/

namespace Sys2Proof.Machine

/-- `x[rc] <- sext_8(bv[7:0])`; `ra` is not read (R351). -/
def execSextb (_ra : Reg) (b : Operand2) (rc : Reg) (s : State) : Outcome :=
  operate rc (((s.operand2 b).setWidth 8).signExtend 64) s

/-- `x[rc] <- sext_16(bv[15:0])`; `ra` is not read (R352). -/
def execSextw (_ra : Reg) (b : Operand2) (rc : Reg) (s : State) : Outcome :=
  operate rc (((s.operand2 b).setWidth 16).signExtend 64) s

/-- Decode-only (R354). -/
def execCtpop (ra : Reg) (b : Operand2) (rc : Reg) (s : State) : Outcome := unimplemented (.ctpop ra b rc) s

/-- Decode-only (R355). -/
def execPerr (ra : Reg) (b : Operand2) (rc : Reg) (s : State) : Outcome := unimplemented (.perr ra b rc) s

/-- Decode-only (R356). -/
def execCtlz (ra : Reg) (b : Operand2) (rc : Reg) (s : State) : Outcome := unimplemented (.ctlz ra b rc) s

/-- Decode-only (R357). -/
def execCttz (ra : Reg) (b : Operand2) (rc : Reg) (s : State) : Outcome := unimplemented (.cttz ra b rc) s

/-- Decode-only (R358). -/
def execUnpkbw (ra : Reg) (b : Operand2) (rc : Reg) (s : State) : Outcome := unimplemented (.unpkbw ra b rc) s

/-- Decode-only (R359). -/
def execUnpkbl (ra : Reg) (b : Operand2) (rc : Reg) (s : State) : Outcome := unimplemented (.unpkbl ra b rc) s

/-- Decode-only (R360). -/
def execPkwb (ra : Reg) (b : Operand2) (rc : Reg) (s : State) : Outcome := unimplemented (.pkwb ra b rc) s

/-- Decode-only (R361). -/
def execPklb (ra : Reg) (b : Operand2) (rc : Reg) (s : State) : Outcome := unimplemented (.pklb ra b rc) s

/-- Decode-only (R362). -/
def execMinsb8 (ra : Reg) (b : Operand2) (rc : Reg) (s : State) : Outcome := unimplemented (.minsb8 ra b rc) s

/-- Decode-only (R363). -/
def execMinsw4 (ra : Reg) (b : Operand2) (rc : Reg) (s : State) : Outcome := unimplemented (.minsw4 ra b rc) s

/-- Decode-only (R364). -/
def execMinub8 (ra : Reg) (b : Operand2) (rc : Reg) (s : State) : Outcome := unimplemented (.minub8 ra b rc) s

/-- Decode-only (R365). -/
def execMinuw4 (ra : Reg) (b : Operand2) (rc : Reg) (s : State) : Outcome := unimplemented (.minuw4 ra b rc) s

/-- Decode-only (R366). -/
def execMaxub8 (ra : Reg) (b : Operand2) (rc : Reg) (s : State) : Outcome := unimplemented (.maxub8 ra b rc) s

/-- Decode-only (R367). -/
def execMaxuw4 (ra : Reg) (b : Operand2) (rc : Reg) (s : State) : Outcome := unimplemented (.maxuw4 ra b rc) s

/-- Decode-only (R368). -/
def execMaxsb8 (ra : Reg) (b : Operand2) (rc : Reg) (s : State) : Outcome := unimplemented (.maxsb8 ra b rc) s

/-- Decode-only (R369). -/
def execMaxsw4 (ra : Reg) (b : Operand2) (rc : Reg) (s : State) : Outcome := unimplemented (.maxsw4 ra b rc) s

/-- Decode-only (R370). -/
def execFtoit (ra : Reg) (b : Operand2) (rc : Reg) (s : State) : Outcome := unimplemented (.ftoit ra b rc) s

/-- Decode-only (R371). -/
def execFtois (ra : Reg) (b : Operand2) (rc : Reg) (s : State) : Outcome := unimplemented (.ftois ra b rc) s

end Sys2Proof.Machine
end

