-- ==== Sys2Proof/Machine/OperateLogical.lean ====
section
/-! DEFINITION. Logical operations and conditional moves (spec/45_operate_logical_cmov.md), primary opcode 0x11. -/

namespace Sys2Proof.Machine

/-- `x[rc] <- av & bv` (R271). -/
def execAnd (ra : Reg) (b : Operand2) (rc : Reg) (s : State) : Outcome := operate rc (s.reg ra &&& s.operand2 b) s

/-- `x[rc] <- av & ~bv` (R272). -/
def execBic (ra : Reg) (b : Operand2) (rc : Reg) (s : State) : Outcome := operate rc (s.reg ra &&& ~~~s.operand2 b) s

/-- `if av[0] = 1 then x[rc] <- bv` (R284). -/
def execCmovlbs (ra : Reg) (b : Operand2) (rc : Reg) (s : State) : Outcome := condMove (lowBitSet (s.reg ra)) b rc s

/-- `if av[0] = 0 then x[rc] <- bv` (R285). -/
def execCmovlbc (ra : Reg) (b : Operand2) (rc : Reg) (s : State) : Outcome := condMove (!lowBitSet (s.reg ra)) b rc s

/-- `x[rc] <- av | bv` (R273). -/
def execBis (ra : Reg) (b : Operand2) (rc : Reg) (s : State) : Outcome := operate rc (s.reg ra ||| s.operand2 b) s

/-- `if av = 0 then x[rc] <- bv` (R278). -/
def execCmoveq (ra : Reg) (b : Operand2) (rc : Reg) (s : State) : Outcome := condMove (isZero (s.reg ra)) b rc s

/-- `if av != 0 then x[rc] <- bv` (R279). -/
def execCmovne (ra : Reg) (b : Operand2) (rc : Reg) (s : State) : Outcome := condMove (!isZero (s.reg ra)) b rc s

/-- `x[rc] <- av | ~bv` (R274). -/
def execOrnot (ra : Reg) (b : Operand2) (rc : Reg) (s : State) : Outcome :=
  operate rc (s.reg ra ||| ~~~s.operand2 b) s

/-- `x[rc] <- av ^ bv` (R275). -/
def execXor (ra : Reg) (b : Operand2) (rc : Reg) (s : State) : Outcome := operate rc (s.reg ra ^^^ s.operand2 b) s

/-- `if signed(av) < 0 then x[rc] <- bv` (R280). -/
def execCmovlt (ra : Reg) (b : Operand2) (rc : Reg) (s : State) : Outcome := condMove (isNegative (s.reg ra)) b rc s

/-- `if signed(av) >= 0 then x[rc] <- bv` (R281). -/
def execCmovge (ra : Reg) (b : Operand2) (rc : Reg) (s : State) : Outcome :=
  condMove (isNotNegative (s.reg ra)) b rc s

/-- `x[rc] <- av ^ ~bv` (R276). -/
def execEqv (ra : Reg) (b : Operand2) (rc : Reg) (s : State) : Outcome := operate rc (s.reg ra ^^^ ~~~s.operand2 b) s

/-- Decode-only (R286). -/
def execAmask (ra : Reg) (b : Operand2) (rc : Reg) (s : State) : Outcome := unimplemented (.amask ra b rc) s

/-- `if signed(av) <= 0 then x[rc] <- bv` (R282). -/
def execCmovle (ra : Reg) (b : Operand2) (rc : Reg) (s : State) : Outcome :=
  condMove (isNotPositive (s.reg ra)) b rc s

/-- `if signed(av) > 0 then x[rc] <- bv` (R283). -/
def execCmovgt (ra : Reg) (b : Operand2) (rc : Reg) (s : State) : Outcome := condMove (isPositive (s.reg ra)) b rc s

/-- Decode-only (R287). -/
def execImplver (ra : Reg) (b : Operand2) (rc : Reg) (s : State) : Outcome := unimplemented (.implver ra b rc) s

end Sys2Proof.Machine
end

