-- ==== Sys2Proof/Machine/OperateShift.lean ====
section
/-! DEFINITION. Shifts and byte lanes (spec/46_operate_shift_bytelane.md), primary opcode 0x12. -/

namespace Sys2Proof.Machine

/-! ### Shifts by the whole second operand (R301, R302) -/

/-- `(av * 2^bv) mod 2^64`, 0 for a count of 64 or more (R304). -/
def shiftLeft (av bv : Word) : Word := if bv.toNat < 64 then av <<< bv.toNat else 0#64

/-- `av div 2^bv`, 0 for a count of 64 or more (R305). -/
def shiftRight (av bv : Word) : Word := if bv.toNat < 64 then av >>> bv.toNat else 0#64

/-- `floor(signed(av) / 2^min(bv, 63)) mod 2^64` (R306). -/
def shiftRightSigned (av bv : Word) : Word := av.sshiftRight (min bv.toNat 63)

/-! ### Lanes (R300) -/

/-- The lane masks `L`, by the size letter of the mnemonic. -/
def laneB : Word := 0xFF#64
@[inherit_doc laneB] def laneW : Word := 0xFFFF#64
@[inherit_doc laneB] def laneL : Word := 0xFFFFFFFF#64
@[inherit_doc laneB] def laneQ : Word := 0xFFFFFFFFFFFFFFFF#64

/-- `m = bv[2:0] * 8`. -/
def laneShift (bv : Word) : Nat := (bv.extractLsb' 0 3).toNat * 8

/-- `(v * 2^m)[63:0]`, the part that falls in the quadword addressed. -/
def laneLow (v : Word) (m : Nat) : Word := (v.setWidth 128 <<< m).extractLsb' 0 64

/-- `(v * 2^m)[127:64]`, the part that spills into the next quadword. -/
def laneHigh (v : Word) (m : Nat) : Word := (v.setWidth 128 <<< m).extractLsb' 64 64

/-- The value whose byte `i` is all ones where `sel[i] = 1` and zero where not, for the `n` low bytes (R307, R308). -/
def byteMask (sel : Word) : Nat → Word
  | 0 => 0#64
  | n + 1 => byteMask sel n ||| (if sel.getLsbD n then 0xFF#64 <<< (8 * n) else 0#64)

/-! ### The instructions. `m` is `laneShift bv`. -/

/-- `x[rc] <- av & ~(((0xFF) * 2^m)[63:0])` (R309). -/
def execMskbl (ra : Reg) (b : Operand2) (rc : Reg) (s : State) : Outcome :=
  operate rc (s.reg ra &&& ~~~laneLow laneB (laneShift (s.operand2 b))) s

/-- `x[rc] <- (av div 2^m) & 0xFF` (R323). -/
def execExtbl (ra : Reg) (b : Operand2) (rc : Reg) (s : State) : Outcome :=
  operate rc ((s.reg ra >>> laneShift (s.operand2 b)) &&& laneB) s

/-- `x[rc] <- (((av & 0xFF) * 2^m)[63:0])` (R316). -/
def execInsbl (ra : Reg) (b : Operand2) (rc : Reg) (s : State) : Outcome :=
  operate rc (laneLow (s.reg ra &&& laneB) (laneShift (s.operand2 b))) s

/-- `x[rc] <- av & ~(((0xFFFF) * 2^m)[63:0])` (R310). -/
def execMskwl (ra : Reg) (b : Operand2) (rc : Reg) (s : State) : Outcome :=
  operate rc (s.reg ra &&& ~~~laneLow laneW (laneShift (s.operand2 b))) s

/-- `x[rc] <- (av div 2^m) & 0xFFFF` (R324). -/
def execExtwl (ra : Reg) (b : Operand2) (rc : Reg) (s : State) : Outcome :=
  operate rc ((s.reg ra >>> laneShift (s.operand2 b)) &&& laneW) s

/-- `x[rc] <- (((av & 0xFFFF) * 2^m)[63:0])` (R317). -/
def execInswl (ra : Reg) (b : Operand2) (rc : Reg) (s : State) : Outcome :=
  operate rc (laneLow (s.reg ra &&& laneW) (laneShift (s.operand2 b))) s

/-- `x[rc] <- av & ~(((0xFFFF_FFFF) * 2^m)[63:0])` (R311). -/
def execMskll (ra : Reg) (b : Operand2) (rc : Reg) (s : State) : Outcome :=
  operate rc (s.reg ra &&& ~~~laneLow laneL (laneShift (s.operand2 b))) s

/-- `x[rc] <- (av div 2^m) & 0xFFFF_FFFF` (R325). -/
def execExtll (ra : Reg) (b : Operand2) (rc : Reg) (s : State) : Outcome :=
  operate rc ((s.reg ra >>> laneShift (s.operand2 b)) &&& laneL) s

/-- `x[rc] <- (((av & 0xFFFF_FFFF) * 2^m)[63:0])` (R318). -/
def execInsll (ra : Reg) (b : Operand2) (rc : Reg) (s : State) : Outcome :=
  operate rc (laneLow (s.reg ra &&& laneL) (laneShift (s.operand2 b))) s

/-- `x[rc] <- av with byte i cleared for every i in 0..7 with bv[i] = 1` (R307). -/
def execZap (ra : Reg) (b : Operand2) (rc : Reg) (s : State) : Outcome :=
  operate rc (s.reg ra &&& ~~~byteMask (s.operand2 b) 8) s

/-- `x[rc] <- av with byte i cleared for every i in 0..7 with bv[i] = 0` (R308). -/
def execZapnot (ra : Reg) (b : Operand2) (rc : Reg) (s : State) : Outcome :=
  operate rc (s.reg ra &&& byteMask (s.operand2 b) 8) s

/-- `x[rc] <- av & ~(((0xFFFF_FFFF_FFFF_FFFF) * 2^m)[63:0])` (R312). -/
def execMskql (ra : Reg) (b : Operand2) (rc : Reg) (s : State) : Outcome :=
  operate rc (s.reg ra &&& ~~~laneLow laneQ (laneShift (s.operand2 b))) s

/-- `x[rc] <- if bv < 64 then av div 2^bv else 0` (R305). -/
def execSrl (ra : Reg) (b : Operand2) (rc : Reg) (s : State) : Outcome :=
  operate rc (shiftRight (s.reg ra) (s.operand2 b)) s

/-- `x[rc] <- (av div 2^m) & 0xFFFF_FFFF_FFFF_FFFF` (R326). -/
def execExtql (ra : Reg) (b : Operand2) (rc : Reg) (s : State) : Outcome :=
  operate rc ((s.reg ra >>> laneShift (s.operand2 b)) &&& laneQ) s

/-- `x[rc] <- if bv < 64 then (av * 2^bv) mod 2^64 else 0` (R304). -/
def execSll (ra : Reg) (b : Operand2) (rc : Reg) (s : State) : Outcome :=
  operate rc (shiftLeft (s.reg ra) (s.operand2 b)) s

/-- `x[rc] <- (((av & 0xFFFF_FFFF_FFFF_FFFF) * 2^m)[63:0])` (R319). -/
def execInsql (ra : Reg) (b : Operand2) (rc : Reg) (s : State) : Outcome :=
  operate rc (laneLow (s.reg ra &&& laneQ) (laneShift (s.operand2 b))) s

/-- `x[rc] <- floor(signed(av) / 2^min(bv, 63)) mod 2^64` (R306). -/
def execSra (ra : Reg) (b : Operand2) (rc : Reg) (s : State) : Outcome :=
  operate rc (shiftRightSigned (s.reg ra) (s.operand2 b)) s

/-- `x[rc] <- av & ~(((0xFFFF) * 2^m)[127:64])` (R313). -/
def execMskwh (ra : Reg) (b : Operand2) (rc : Reg) (s : State) : Outcome :=
  operate rc (s.reg ra &&& ~~~laneHigh laneW (laneShift (s.operand2 b))) s

/-- `x[rc] <- (((av & 0xFFFF) * 2^m)[127:64])` (R320). -/
def execInswh (ra : Reg) (b : Operand2) (rc : Reg) (s : State) : Outcome :=
  operate rc (laneHigh (s.reg ra &&& laneW) (laneShift (s.operand2 b))) s

/-- `x[rc] <- ((av * 2^((64 - m) mod 64))[63:0]) & 0xFFFF` (R327). -/
def execExtwh (ra : Reg) (b : Operand2) (rc : Reg) (s : State) : Outcome :=
  operate rc ((s.reg ra <<< ((64 - laneShift (s.operand2 b)) % 64)) &&& laneW) s

/-- `x[rc] <- av & ~(((0xFFFF_FFFF) * 2^m)[127:64])` (R314). -/
def execMsklh (ra : Reg) (b : Operand2) (rc : Reg) (s : State) : Outcome :=
  operate rc (s.reg ra &&& ~~~laneHigh laneL (laneShift (s.operand2 b))) s

/-- `x[rc] <- (((av & 0xFFFF_FFFF) * 2^m)[127:64])` (R321). -/
def execInslh (ra : Reg) (b : Operand2) (rc : Reg) (s : State) : Outcome :=
  operate rc (laneHigh (s.reg ra &&& laneL) (laneShift (s.operand2 b))) s

/-- `x[rc] <- ((av * 2^((64 - m) mod 64))[63:0]) & 0xFFFF_FFFF` (R328). -/
def execExtlh (ra : Reg) (b : Operand2) (rc : Reg) (s : State) : Outcome :=
  operate rc ((s.reg ra <<< ((64 - laneShift (s.operand2 b)) % 64)) &&& laneL) s

/-- `x[rc] <- av & ~(((0xFFFF_FFFF_FFFF_FFFF) * 2^m)[127:64])` (R315). -/
def execMskqh (ra : Reg) (b : Operand2) (rc : Reg) (s : State) : Outcome :=
  operate rc (s.reg ra &&& ~~~laneHigh laneQ (laneShift (s.operand2 b))) s

/-- `x[rc] <- (((av & 0xFFFF_FFFF_FFFF_FFFF) * 2^m)[127:64])` (R322). -/
def execInsqh (ra : Reg) (b : Operand2) (rc : Reg) (s : State) : Outcome :=
  operate rc (laneHigh (s.reg ra &&& laneQ) (laneShift (s.operand2 b))) s

/-- `x[rc] <- ((av * 2^((64 - m) mod 64))[63:0]) & 0xFFFF_FFFF_FFFF_FFFF` (R329). -/
def execExtqh (ra : Reg) (b : Operand2) (rc : Reg) (s : State) : Outcome :=
  operate rc ((s.reg ra <<< ((64 - laneShift (s.operand2 b)) % 64)) &&& laneQ) s

end Sys2Proof.Machine
end

