-- ==== Sys2Proof/Machine/Dispatch.lean ====
section
/-! DEFINITION. The dispatch (R146 of spec/40_step_cycle.md): one meaning per instruction. -/

namespace Sys2Proof.Machine

/-- The rule of the instruction, performed after the pc has advanced (lines 5 and 6 of R141 of 40_step_cycle.md). -/
def exec (i : Instr) (s : State) : Host.Outcome State Fault Refusal :=
  match i with
  | .lda ra rb disp => Sys2Proof.Machine.execLda ra rb disp s
  | .ldah ra rb disp => Sys2Proof.Machine.execLdah ra rb disp s
  | .ldbu ra rb disp => Sys2Proof.Machine.execLdbu ra rb disp s
  | .ldqU ra rb disp => Sys2Proof.Machine.execLdqU ra rb disp s
  | .ldwu ra rb disp => Sys2Proof.Machine.execLdwu ra rb disp s
  | .stw ra rb disp => Sys2Proof.Machine.execStw ra rb disp s
  | .stb ra rb disp => Sys2Proof.Machine.execStb ra rb disp s
  | .stqU ra rb disp => Sys2Proof.Machine.execStqU ra rb disp s
  | .ldf fa rb disp => Sys2Proof.Machine.execLdf fa rb disp s
  | .ldg fa rb disp => Sys2Proof.Machine.execLdg fa rb disp s
  | .lds fa rb disp => Sys2Proof.Machine.execLds fa rb disp s
  | .ldt fa rb disp => Sys2Proof.Machine.execLdt fa rb disp s
  | .stf fa rb disp => Sys2Proof.Machine.execStf fa rb disp s
  | .stg fa rb disp => Sys2Proof.Machine.execStg fa rb disp s
  | .sts fa rb disp => Sys2Proof.Machine.execSts fa rb disp s
  | .stt fa rb disp => Sys2Proof.Machine.execStt fa rb disp s
  | .ldl ra rb disp => Sys2Proof.Machine.execLdl ra rb disp s
  | .ldq ra rb disp => Sys2Proof.Machine.execLdq ra rb disp s
  | .ldlL ra rb disp => Sys2Proof.Machine.execLdlL ra rb disp s
  | .ldqL ra rb disp => Sys2Proof.Machine.execLdqL ra rb disp s
  | .stl ra rb disp => Sys2Proof.Machine.execStl ra rb disp s
  | .stq ra rb disp => Sys2Proof.Machine.execStq ra rb disp s
  | .stlC ra rb disp => Sys2Proof.Machine.execStlC ra rb disp s
  | .stqC ra rb disp => Sys2Proof.Machine.execStqC ra rb disp s
  | .br ra disp => Sys2Proof.Machine.execBr ra disp s
  | .fbeq fa disp => Sys2Proof.Machine.execFbeq fa disp s
  | .fblt fa disp => Sys2Proof.Machine.execFblt fa disp s
  | .fble fa disp => Sys2Proof.Machine.execFble fa disp s
  | .bsr ra disp => Sys2Proof.Machine.execBsr ra disp s
  | .fbne fa disp => Sys2Proof.Machine.execFbne fa disp s
  | .fbge fa disp => Sys2Proof.Machine.execFbge fa disp s
  | .fbgt fa disp => Sys2Proof.Machine.execFbgt fa disp s
  | .blbc ra disp => Sys2Proof.Machine.execBlbc ra disp s
  | .beq ra disp => Sys2Proof.Machine.execBeq ra disp s
  | .blt ra disp => Sys2Proof.Machine.execBlt ra disp s
  | .ble ra disp => Sys2Proof.Machine.execBle ra disp s
  | .blbs ra disp => Sys2Proof.Machine.execBlbs ra disp s
  | .bne ra disp => Sys2Proof.Machine.execBne ra disp s
  | .bge ra disp => Sys2Proof.Machine.execBge ra disp s
  | .bgt ra disp => Sys2Proof.Machine.execBgt ra disp s
  | .jmp ra rb jdisp => Sys2Proof.Machine.execJmp ra rb jdisp s
  | .jsr ra rb jdisp => Sys2Proof.Machine.execJsr ra rb jdisp s
  | .ret ra rb jdisp => Sys2Proof.Machine.execRet ra rb jdisp s
  | .jsrCoroutine ra rb jdisp => Sys2Proof.Machine.execJsrCoroutine ra rb jdisp s
  | .trapb ra rb => Sys2Proof.Machine.execTrapb ra rb s
  | .excb ra rb => Sys2Proof.Machine.execExcb ra rb s
  | .mb ra rb => Sys2Proof.Machine.execMb ra rb s
  | .wmb ra rb => Sys2Proof.Machine.execWmb ra rb s
  | .fetch ra rb => Sys2Proof.Machine.execFetch ra rb s
  | .fetchM ra rb => Sys2Proof.Machine.execFetchM ra rb s
  | .rpcc ra rb => Sys2Proof.Machine.execRpcc ra rb s
  | .rc ra rb => Sys2Proof.Machine.execRc ra rb s
  | .ecb ra rb => Sys2Proof.Machine.execEcb ra rb s
  | .rs ra rb => Sys2Proof.Machine.execRs ra rb s
  | .wh64 ra rb => Sys2Proof.Machine.execWh64 ra rb s
  | .wh64en ra rb => Sys2Proof.Machine.execWh64en ra rb s
  | .addl ra b rc => Sys2Proof.Machine.execAddl ra b rc s
  | .s4addl ra b rc => Sys2Proof.Machine.execS4addl ra b rc s
  | .subl ra b rc => Sys2Proof.Machine.execSubl ra b rc s
  | .s4subl ra b rc => Sys2Proof.Machine.execS4subl ra b rc s
  | .cmpbge ra b rc => Sys2Proof.Machine.execCmpbge ra b rc s
  | .s8addl ra b rc => Sys2Proof.Machine.execS8addl ra b rc s
  | .s8subl ra b rc => Sys2Proof.Machine.execS8subl ra b rc s
  | .cmpult ra b rc => Sys2Proof.Machine.execCmpult ra b rc s
  | .addq ra b rc => Sys2Proof.Machine.execAddq ra b rc s
  | .s4addq ra b rc => Sys2Proof.Machine.execS4addq ra b rc s
  | .subq ra b rc => Sys2Proof.Machine.execSubq ra b rc s
  | .s4subq ra b rc => Sys2Proof.Machine.execS4subq ra b rc s
  | .cmpeq ra b rc => Sys2Proof.Machine.execCmpeq ra b rc s
  | .s8addq ra b rc => Sys2Proof.Machine.execS8addq ra b rc s
  | .s8subq ra b rc => Sys2Proof.Machine.execS8subq ra b rc s
  | .cmpule ra b rc => Sys2Proof.Machine.execCmpule ra b rc s
  | .addlV ra b rc => Sys2Proof.Machine.execAddlV ra b rc s
  | .sublV ra b rc => Sys2Proof.Machine.execSublV ra b rc s
  | .cmplt ra b rc => Sys2Proof.Machine.execCmplt ra b rc s
  | .addqV ra b rc => Sys2Proof.Machine.execAddqV ra b rc s
  | .subqV ra b rc => Sys2Proof.Machine.execSubqV ra b rc s
  | .cmple ra b rc => Sys2Proof.Machine.execCmple ra b rc s
  | .and ra b rc => Sys2Proof.Machine.execAnd ra b rc s
  | .bic ra b rc => Sys2Proof.Machine.execBic ra b rc s
  | .cmovlbs ra b rc => Sys2Proof.Machine.execCmovlbs ra b rc s
  | .cmovlbc ra b rc => Sys2Proof.Machine.execCmovlbc ra b rc s
  | .bis ra b rc => Sys2Proof.Machine.execBis ra b rc s
  | .cmoveq ra b rc => Sys2Proof.Machine.execCmoveq ra b rc s
  | .cmovne ra b rc => Sys2Proof.Machine.execCmovne ra b rc s
  | .ornot ra b rc => Sys2Proof.Machine.execOrnot ra b rc s
  | .xor ra b rc => Sys2Proof.Machine.execXor ra b rc s
  | .cmovlt ra b rc => Sys2Proof.Machine.execCmovlt ra b rc s
  | .cmovge ra b rc => Sys2Proof.Machine.execCmovge ra b rc s
  | .eqv ra b rc => Sys2Proof.Machine.execEqv ra b rc s
  | .amask ra b rc => Sys2Proof.Machine.execAmask ra b rc s
  | .cmovle ra b rc => Sys2Proof.Machine.execCmovle ra b rc s
  | .cmovgt ra b rc => Sys2Proof.Machine.execCmovgt ra b rc s
  | .implver ra b rc => Sys2Proof.Machine.execImplver ra b rc s
  | .mskbl ra b rc => Sys2Proof.Machine.execMskbl ra b rc s
  | .extbl ra b rc => Sys2Proof.Machine.execExtbl ra b rc s
  | .insbl ra b rc => Sys2Proof.Machine.execInsbl ra b rc s
  | .mskwl ra b rc => Sys2Proof.Machine.execMskwl ra b rc s
  | .extwl ra b rc => Sys2Proof.Machine.execExtwl ra b rc s
  | .inswl ra b rc => Sys2Proof.Machine.execInswl ra b rc s
  | .mskll ra b rc => Sys2Proof.Machine.execMskll ra b rc s
  | .extll ra b rc => Sys2Proof.Machine.execExtll ra b rc s
  | .insll ra b rc => Sys2Proof.Machine.execInsll ra b rc s
  | .zap ra b rc => Sys2Proof.Machine.execZap ra b rc s
  | .zapnot ra b rc => Sys2Proof.Machine.execZapnot ra b rc s
  | .mskql ra b rc => Sys2Proof.Machine.execMskql ra b rc s
  | .srl ra b rc => Sys2Proof.Machine.execSrl ra b rc s
  | .extql ra b rc => Sys2Proof.Machine.execExtql ra b rc s
  | .sll ra b rc => Sys2Proof.Machine.execSll ra b rc s
  | .insql ra b rc => Sys2Proof.Machine.execInsql ra b rc s
  | .sra ra b rc => Sys2Proof.Machine.execSra ra b rc s
  | .mskwh ra b rc => Sys2Proof.Machine.execMskwh ra b rc s
  | .inswh ra b rc => Sys2Proof.Machine.execInswh ra b rc s
  | .extwh ra b rc => Sys2Proof.Machine.execExtwh ra b rc s
  | .msklh ra b rc => Sys2Proof.Machine.execMsklh ra b rc s
  | .inslh ra b rc => Sys2Proof.Machine.execInslh ra b rc s
  | .extlh ra b rc => Sys2Proof.Machine.execExtlh ra b rc s
  | .mskqh ra b rc => Sys2Proof.Machine.execMskqh ra b rc s
  | .insqh ra b rc => Sys2Proof.Machine.execInsqh ra b rc s
  | .extqh ra b rc => Sys2Proof.Machine.execExtqh ra b rc s
  | .mull ra b rc => Sys2Proof.Machine.execMull ra b rc s
  | .mulq ra b rc => Sys2Proof.Machine.execMulq ra b rc s
  | .umulh ra b rc => Sys2Proof.Machine.execUmulh ra b rc s
  | .mullV ra b rc => Sys2Proof.Machine.execMullV ra b rc s
  | .mulqV ra b rc => Sys2Proof.Machine.execMulqV ra b rc s
  | .sextb ra b rc => Sys2Proof.Machine.execSextb ra b rc s
  | .sextw ra b rc => Sys2Proof.Machine.execSextw ra b rc s
  | .ctpop ra b rc => Sys2Proof.Machine.execCtpop ra b rc s
  | .perr ra b rc => Sys2Proof.Machine.execPerr ra b rc s
  | .ctlz ra b rc => Sys2Proof.Machine.execCtlz ra b rc s
  | .cttz ra b rc => Sys2Proof.Machine.execCttz ra b rc s
  | .unpkbw ra b rc => Sys2Proof.Machine.execUnpkbw ra b rc s
  | .unpkbl ra b rc => Sys2Proof.Machine.execUnpkbl ra b rc s
  | .pkwb ra b rc => Sys2Proof.Machine.execPkwb ra b rc s
  | .pklb ra b rc => Sys2Proof.Machine.execPklb ra b rc s
  | .minsb8 ra b rc => Sys2Proof.Machine.execMinsb8 ra b rc s
  | .minsw4 ra b rc => Sys2Proof.Machine.execMinsw4 ra b rc s
  | .minub8 ra b rc => Sys2Proof.Machine.execMinub8 ra b rc s
  | .minuw4 ra b rc => Sys2Proof.Machine.execMinuw4 ra b rc s
  | .maxub8 ra b rc => Sys2Proof.Machine.execMaxub8 ra b rc s
  | .maxuw4 ra b rc => Sys2Proof.Machine.execMaxuw4 ra b rc s
  | .maxsb8 ra b rc => Sys2Proof.Machine.execMaxsb8 ra b rc s
  | .maxsw4 ra b rc => Sys2Proof.Machine.execMaxsw4 ra b rc s
  | .ftoit ra b rc => Sys2Proof.Machine.execFtoit ra b rc s
  | .ftois ra b rc => Sys2Proof.Machine.execFtois ra b rc s
  | .callPal palfn => Sys2Proof.Machine.execCallPal palfn s
  | .opc01 low => Sys2Proof.Machine.execOpc01 low s
  | .opc02 low => Sys2Proof.Machine.execOpc02 low s
  | .opc03 low => Sys2Proof.Machine.execOpc03 low s
  | .opc04 low => Sys2Proof.Machine.execOpc04 low s
  | .opc05 low => Sys2Proof.Machine.execOpc05 low s
  | .opc06 low => Sys2Proof.Machine.execOpc06 low s
  | .opc07 low => Sys2Proof.Machine.execOpc07 low s
  | .pal19 low => Sys2Proof.Machine.execPal19 low s
  | .pal1b low => Sys2Proof.Machine.execPal1b low s
  | .pal1d low => Sys2Proof.Machine.execPal1d low s
  | .pal1e low => Sys2Proof.Machine.execPal1e low s
  | .pal1f low => Sys2Proof.Machine.execPal1f low s
  | .itofs fa fb fc => Sys2Proof.Machine.execItofs fa fb fc s
  | .itoff fa fb fc => Sys2Proof.Machine.execItoff fa fb fc s
  | .itoft fa fb fc => Sys2Proof.Machine.execItoft fa fb fc s
  | .sqrtf fa fb fn fc => Sys2Proof.Machine.execSqrtf fa fb fn fc s
  | .sqrts fa fb fn fc => Sys2Proof.Machine.execSqrts fa fb fn fc s
  | .sqrtg fa fb fn fc => Sys2Proof.Machine.execSqrtg fa fb fn fc s
  | .sqrtt fa fb fn fc => Sys2Proof.Machine.execSqrtt fa fb fn fc s
  | .addf fa fb fn fc => Sys2Proof.Machine.execAddf fa fb fn fc s
  | .subf fa fb fn fc => Sys2Proof.Machine.execSubf fa fb fn fc s
  | .mulf fa fb fn fc => Sys2Proof.Machine.execMulf fa fb fn fc s
  | .divf fa fb fn fc => Sys2Proof.Machine.execDivf fa fb fn fc s
  | .cvtdg fa fb fn fc => Sys2Proof.Machine.execCvtdg fa fb fn fc s
  | .addg fa fb fn fc => Sys2Proof.Machine.execAddg fa fb fn fc s
  | .subg fa fb fn fc => Sys2Proof.Machine.execSubg fa fb fn fc s
  | .mulg fa fb fn fc => Sys2Proof.Machine.execMulg fa fb fn fc s
  | .divg fa fb fn fc => Sys2Proof.Machine.execDivg fa fb fn fc s
  | .cmpgeq fa fb fn fc => Sys2Proof.Machine.execCmpgeq fa fb fn fc s
  | .cmpglt fa fb fn fc => Sys2Proof.Machine.execCmpglt fa fb fn fc s
  | .cmpgle fa fb fn fc => Sys2Proof.Machine.execCmpgle fa fb fn fc s
  | .cvtgf fa fb fn fc => Sys2Proof.Machine.execCvtgf fa fb fn fc s
  | .cvtgd fa fb fn fc => Sys2Proof.Machine.execCvtgd fa fb fn fc s
  | .cvtgq fa fb fn fc => Sys2Proof.Machine.execCvtgq fa fb fn fc s
  | .cvtqf fa fb fn fc => Sys2Proof.Machine.execCvtqf fa fb fn fc s
  | .cvtqg fa fb fn fc => Sys2Proof.Machine.execCvtqg fa fb fn fc s
  | .adds fa fb fn fc => Sys2Proof.Machine.execAdds fa fb fn fc s
  | .subs fa fb fn fc => Sys2Proof.Machine.execSubs fa fb fn fc s
  | .muls fa fb fn fc => Sys2Proof.Machine.execMuls fa fb fn fc s
  | .divs fa fb fn fc => Sys2Proof.Machine.execDivs fa fb fn fc s
  | .addt fa fb fn fc => Sys2Proof.Machine.execAddt fa fb fn fc s
  | .subt fa fb fn fc => Sys2Proof.Machine.execSubt fa fb fn fc s
  | .mult fa fb fn fc => Sys2Proof.Machine.execMult fa fb fn fc s
  | .divt fa fb fn fc => Sys2Proof.Machine.execDivt fa fb fn fc s
  | .cmptun fa fb fn fc => Sys2Proof.Machine.execCmptun fa fb fn fc s
  | .cmpteq fa fb fn fc => Sys2Proof.Machine.execCmpteq fa fb fn fc s
  | .cmptlt fa fb fn fc => Sys2Proof.Machine.execCmptlt fa fb fn fc s
  | .cmptle fa fb fn fc => Sys2Proof.Machine.execCmptle fa fb fn fc s
  | .cvtts fa fb fn fc => Sys2Proof.Machine.execCvtts fa fb fn fc s
  | .cvttq fa fb fn fc => Sys2Proof.Machine.execCvttq fa fb fn fc s
  | .cvtqs fa fb fn fc => Sys2Proof.Machine.execCvtqs fa fb fn fc s
  | .cvtqt fa fb fn fc => Sys2Proof.Machine.execCvtqt fa fb fn fc s
  | .cvtst fa fb fn fc => Sys2Proof.Machine.execCvtst fa fb fn fc s
  | .cvtlq fa fb fc => Sys2Proof.Machine.execCvtlq fa fb fc s
  | .cpys fa fb fc => Sys2Proof.Machine.execCpys fa fb fc s
  | .cpysn fa fb fc => Sys2Proof.Machine.execCpysn fa fb fc s
  | .cpyse fa fb fc => Sys2Proof.Machine.execCpyse fa fb fc s
  | .mtFpcr fa fb fc => Sys2Proof.Machine.execMtFpcr fa fb fc s
  | .mfFpcr fa fb fc => Sys2Proof.Machine.execMfFpcr fa fb fc s
  | .fcmoveq fa fb fc => Sys2Proof.Machine.execFcmoveq fa fb fc s
  | .fcmovne fa fb fc => Sys2Proof.Machine.execFcmovne fa fb fc s
  | .fcmovlt fa fb fc => Sys2Proof.Machine.execFcmovlt fa fb fc s
  | .fcmovge fa fb fc => Sys2Proof.Machine.execFcmovge fa fb fc s
  | .fcmovle fa fb fc => Sys2Proof.Machine.execFcmovle fa fb fc s
  | .fcmovgt fa fb fc => Sys2Proof.Machine.execFcmovgt fa fb fc s
  | .cvtql fa fb fn fc => Sys2Proof.Machine.execCvtql fa fb fn fc s
  | .unknown w => Sys2Proof.Machine.execUnknown w s

end Sys2Proof.Machine
end

