-- ==== Sys2Proof/Machine/Fetch.lean ====
section
/-! DEFINITION. The part of a step before the instruction acts (lines 1 to 3 and 5 of R141 of
spec/40_step_cycle.md). -/

namespace Sys2Proof.Machine

/-- What a running machine does next. -/
inductive Begin where
  /-- The pc is the sentinel: the run halts (line 1). -/
  | halt
  /-- The pc check or the fetch faults (lines 2 and 3). -/
  | fault (info : FaultRecord)
  /-- The instruction fetched and decoded (lines 3 and 5). -/
  | run (i : Instr)
deriving DecidableEq, Repr

/-- The halt test, the pc check and the fetch, in the order of R141 (R142, R143); decoding never fails (R145). -/
def State.begin (s : State) : Begin :=
  if s.pc = s.cfg.sentinel then .halt
  else if s.pc.toNat % 4 ≠ 0 ∨ ¬ s.cfg.InText s.pc then .fault (.invalidProgramCounter s.pc)
  else match s.memRead s.pc 4 with
    | none => .fault (.addressError s.pc s.pc)
    | some v => .run (decode (v.setWidth 32))

/-- The state with an instruction word stored, little-endian, at the pc. -/
def State.placeAtPc (s : State) (w : Word) : State := { s with mem := s.mem.writeLE s.pc.toNat 4 w }

end Sys2Proof.Machine
end

