-- ==== Sys2Proof/Machine/Step.lean ====
section
/-! DEFINITION. The step (R141 of spec/40_step_cycle.md). -/

namespace Sys2Proof.Machine

/-- One step. A configuration that breaks a constraint is refused (R453 of 70_reset_and_hazards.md); a run that is
over takes no step (R140). -/
def step (s : State) : Host.Outcome State Fault Refusal :=
  if s.cfg.Valid then
    match s.status with
    | .halted => .fault .runHalted
    | .faulted info => .fault (.runFaulted info)
    | .running =>
      match s.begin with
      | .halt => .next s.halt
      | .fault info => .next (s.raise info)
      | .run i => exec i s.advance
  else .refused .badConfiguration

/-- The state with the instruction whose bits are the low `nbits` of `w` stored at the pc, in little-endian order
(R57 of 20_memory.md). It stands for the loader (log entry 2). -/
def State.withFetchWord (s : State) (nbits w : Nat) : State := s.placeAtPc (BitVec.ofNat 64 (w % 2 ^ min nbits 32))

end Sys2Proof.Machine
end

