-- ==== Sys2Proof/Machine/Loader.lean ====
section
/-! DEFINITION. What the loader supplies and the parameters that come from it (R56 of spec/20_memory.md, R452 of
70_reset_and_hazards.md). -/

namespace Sys2Proof.Machine

/-- A loadable segment `{virtualAddress, fileBytes}` (R56). -/
structure Segment where
  virtualAddress : Word
  fileBytes : List Byte
deriving DecidableEq, Repr

/-- One past the last address of a segment, as an unbounded integer (R56). -/
def Segment.limit (g : Segment) : Nat := g.virtualAddress.toNat + g.fileBytes.length

/-- `LOAD_START`, the least first address (R56). -/
def segmentsStart : List Segment → Nat
  | [] => 0
  | [g] => g.virtualAddress.toNat
  | g :: h :: gs => min g.virtualAddress.toNat (segmentsStart (h :: gs))

/-- `LOAD_END`, the greatest limit (R56). -/
def segmentsEnd : List Segment → Nat
  | [] => 0
  | g :: gs => max g.limit (segmentsEnd gs)

/-- The bytes copied to rising addresses from `a`. -/
def placeBytes (m : Memory) (a : Nat) : List Byte → Memory
  | [] => m
  | b :: bs => placeBytes (m.write a b) (a + 1) bs

/-- The segments copied in list order, so that the last writer of a byte wins (R56). -/
def placeSegments (m : Memory) : List Segment → Memory
  | [] => m
  | g :: gs => placeSegments (placeBytes m g.virtualAddress.toNat g.fileBytes) gs

/-- The reset inputs (R452), with `STACK_START`, which is a parameter of the hardware. -/
structure LoaderInput where
  entry : Word
  segments : List Segment
  textAddress : Word
  textSize : Nat
  stackStart : Nat
deriving DecidableEq, Repr

/-- The configuration the reset inputs give (R56, R452). R56 derives it for a non-empty list of segments with at least
one byte each; for any other there is none (log entry 13). -/
def LoaderInput.config (l : LoaderInput) : Option Config :=
  if l.segments ≠ [] ∧ ∀ g ∈ l.segments, g.fileBytes ≠ [] then
    some { loadStart := segmentsStart l.segments, loadEnd := segmentsEnd l.segments,
           imageInit := placeSegments [] l.segments, stackStart := l.stackStart,
           textStart := l.textAddress.toNat, textSize := l.textSize, entry := l.entry }
  else none

end Sys2Proof.Machine
end

