-- ==== Sys2Proof/Safety.lean ====
section
/-! DEFINITION. The terms in which statements speak of runs: the executed set, the invariant of the state, and what
one step may leave as it was. -/

namespace Sys2Proof

/-- The executed Opcodes of the Branch and MemoryBranch Formats (R147 of spec/40_step_cycle.md). -/
def executedBranch : List Opcode :=
  [.br, .bsr, .beq, .bne, .blt, .ble, .bgt, .bge, .blbc, .blbs, .jmp, .jsr, .ret, .jsrCoroutine]

/-- The executed Opcodes of the Memory Format, the two conditional ones apart (R147). -/
def executedMemory : List Opcode :=
  [.lda, .ldah, .ldbu, .ldwu, .ldl, .ldq, .ldqU, .stb, .stw, .stl, .stq, .stqU]

/-- The executed Opcodes of primaries 0x10, 0x13 and 0x1C (R147). -/
def executedArith : List Opcode :=
  [.addl, .s4addl, .s8addl, .subl, .s4subl, .s8subl, .addq, .s4addq, .s8addq, .subq, .s4subq, .s8subq, .cmpbge,
   .cmpeq, .cmplt, .cmple, .cmpult, .cmpule, .mull, .mulq, .umulh, .sextb, .sextw]

/-- The executed Opcodes of primary 0x11 (R147). -/
def executedLogical : List Opcode :=
  [.and, .bic, .bis, .ornot, .xor, .eqv, .cmoveq, .cmovne, .cmovlt, .cmovge, .cmovle, .cmovgt, .cmovlbs, .cmovlbc]

/-- The Opcodes of primary 0x12, all executed (R147). -/
def executedShift : List Opcode :=
  [.sll, .srl, .sra, .zap, .zapnot, .mskbl, .mskwl, .mskll, .mskql, .mskwh, .msklh, .mskqh, .insbl, .inswl, .insll,
   .insql, .inswh, .inslh, .insqh, .extbl, .extwl, .extll, .extql, .extwh, .extlh, .extqh]

/-- The 89 Opcodes with execution semantics, the two conditional ones apart (R147). -/
def executedOpcodes : List Opcode :=
  executedBranch ++ executedMemory ++ executedArith ++ executedLogical ++ executedShift

/-- The Opcodes that are executed only with `ra` = 31 (R147). -/
def prefetchOpcodes : List Opcode := [.lds, .ldt]

/-- The bits of a word that affect neither decode nor execution (R100, and R117 for the placeholders, of
30_encoding.md), set in a mask. -/
def ignoredBits (w : InstrWord) : InstrWord :=
  let opc := opcField w
  if opc ∈ [0x10#6, 0x11#6, 0x12#6, 0x13#6, 0x1C#6] then
    (if w.getLsbD 12 then 0 else 0x0000E000#32) |||
      (if opc = 0x1C#6 ∧ func7Field w ∈ [0x00#7, 0x01#7] then 0x03E00000#32 else 0)
  else if opc = 0x1A#6 then 0x00003FFF#32
  else if opc = 0x18#6 then 0x03FF0000#32
  else if opc ∈ [0x14#6, 0x15#6, 0x16#6, 0x17#6] then 0x03FF001F#32
  else if opc ∈ [0x00#6, 0x01#6, 0x02#6, 0x03#6, 0x04#6, 0x05#6, 0x06#6, 0x07#6, 0x19#6, 0x1B#6, 0x1D#6, 0x1E#6,
      0x1F#6] then 0x03FFFFFF#32
  else 0

/-- `Executes(op, w)` (R147). -/
def Instr.executes (i : Instr) : Bool :=
  executedOpcodes.contains i.opcode || (prefetchOpcodes.contains i.opcode && raField (encode i) == 31#5)

namespace Machine

/-- Every state of a run has this form: memory is canonical, the bytes it lists lie in a region ("No byte outside the
two regions exists", R32 of 10_state.md), and slot 31 of the register file is zero (R22). -/
structure State.Inv (s : State) : Prop where
  canonical : s.mem.wf = true
  placed : ∀ cell ∈ s.mem, s.cfg.Fits cell.1 1
  zero : s.regs[31] = 0#64

/-! ### What one instruction or one step leaves as it was -/

/-- The registers, the memory, the output and the configuration are as before. -/
structure State.SameData (s t : State) : Prop where
  registers : ∀ q : Reg, t.reg q = s.reg q
  memory : ∀ a : Nat, t.mem.read a = s.mem.read a
  output : t.out = s.out
  config : t.cfg = s.cfg

/-- Only the pc changes, to `p`. -/
structure State.GoesTo (s t : State) (p : Word) : Prop extends State.SameData s t where
  pc : t.pc = p
  status : t.status = s.status

/-- Nothing changes. -/
def State.Idle (s t : State) : Prop := s.GoesTo t s.pc

/-- The run faults with the record `info` and nothing else changes (R421 of 60_exceptions.md). -/
structure State.Raises (s t : State) (info : FaultRecord) : Prop extends State.SameData s t where
  pc : t.pc = s.pc
  status : t.status = .faulted info

/-- Register `r` is set to `v`, which is dropped if `r` is 31 (R22 of 10_state.md), the pc is `p`, and nothing else
changes. -/
structure State.Sets (s t : State) (r : Reg) (v p : Word) : Prop where
  value : r ≠ 31#5 → t.reg r = v
  zero : t.reg 31#5 = 0#64
  others : ∀ q : Reg, q ≠ r → t.reg q = s.reg q
  pc : t.pc = p
  memory : ∀ a : Nat, t.mem.read a = s.mem.read a
  output : t.out = s.out
  status : t.status = s.status
  config : t.cfg = s.cfg

/-- The low `n` bytes of `v` are stored from address `a` on, the least significant first, and nothing else changes. -/
structure State.Stores (s t : State) (a n : Nat) (v : Word) : Prop where
  stored : ∀ i : Nat, i < n → t.mem.read (a + i) = v.extractLsb' (8 * i) 8
  memory : ∀ k : Nat, k < a ∨ a + n ≤ k → t.mem.read k = s.mem.read k
  registers : ∀ q : Reg, t.reg q = s.reg q
  pc : t.pc = s.pc
  output : t.out = s.out
  status : t.status = s.status
  config : t.cfg = s.cfg

/-- The byte `b` is appended to the output and nothing else changes. -/
structure State.Emits (s t : State) (b : Byte) : Prop where
  output : t.out = s.out ++ [b]
  memory : ∀ a : Nat, t.mem.read a = s.mem.read a
  registers : ∀ q : Reg, t.reg q = s.reg q
  pc : t.pc = s.pc
  status : t.status = s.status
  config : t.cfg = s.cfg

/-! ### Values as exact integers (R6 of 00_scope.md) -/

/-- `r mod 2^64`. -/
def wrap (r : Int) : Word := BitVec.ofInt 64 r

/-- `sext_32(r[31:0])`: the low 32 bits of `r`, read in two's complement. -/
def longResult (r : Int) : Word := BitVec.ofInt 64 (r.bmod (2 ^ 32))

/-- The `n` bytes from address `a` on, read little-endian (R58 of 20_memory.md). -/
def State.bytesAt (s : State) (a n : Nat) : Nat := ∑ i ∈ Finset.range n, (s.mem.read (a + i)).toNat * 2 ^ (8 * i)

/-! ### The shapes of instruction rules -/

/-- The word `w` is the instruction `i`, which completes in a state of which `P` holds. -/
def Runs (w : InstrWord) (i : Instr) (s : State) (P : State → Prop) : Prop :=
  decode w = i ∧ ∃ t, exec i s = .next t ∧ P t

/-- The rule of a conditional branch: to the target if the condition holds, else nothing but the pc advance. -/
def BranchRule (w : InstrWord) (i : Instr) (s : State) (cond : Prop) (target : Word) : Prop :=
  Runs w i s fun t => (cond → s.GoesTo t target) ∧ (¬ cond → s.Idle t)

/-- The rule of a conditional move. -/
def MoveRule (w : InstrWord) (i : Instr) (s : State) (cond : Prop) (rc : Reg) (v : Word) : Prop :=
  Runs w i s fun t => (cond → s.Sets t rc v s.pc) ∧ (¬ cond → s.Idle t)

/-- The rule of a load of `n` bytes at `a` into `ra`, extended by `ext`. -/
def LoadRule (w : InstrWord) (i : Instr) (s : State) (ra : Reg) (a : Word) (n : Nat) (ext : Nat → Word) : Prop :=
  Runs w i s fun t =>
    (ra = 31#5 → s.Idle t) ∧
    (ra ≠ 31#5 → s.cfg.Fits a.toNat n → s.Sets t ra (ext (s.bytesAt a.toNat n)) s.pc) ∧
    (ra ≠ 31#5 → ¬ s.cfg.Fits a.toNat n → s.Raises t (.addressError (s.pc - 4#64) a))

/-- The rule of a store of the low `n` bytes of `ra` at `a`. -/
def StoreRule (w : InstrWord) (i : Instr) (s : State) (ra : Reg) (a : Word) (n : Nat) : Prop :=
  Runs w i s fun t =>
    (n = 1 ∧ a = outputAddr → s.Emits t ((s.reg ra).extractLsb' 0 8)) ∧
    (¬ (n = 1 ∧ a = outputAddr) → s.cfg.Fits a.toNat n → s.Stores t a.toNat n (s.reg ra)) ∧
    (¬ (n = 1 ∧ a = outputAddr) → ¬ s.cfg.Fits a.toNat n → s.Raises t (.addressError (s.pc - 4#64) a))

/-- The rule of decode-only Opcodes: the fault record carries the address of the instruction, its Opcode and its
word (R148 of 40_step_cycle.md). -/
def DecodeOnlyRule (ops : List Opcode) : Prop :=
  ∀ s : State,
    (∀ i : Instr, i.opcode ∈ ops →
      ∃ t, exec i s = .next t ∧ s.Raises t (.unimplementedOpcode (s.pc - 4#64) i.opcode (encode i))) ∧
    (∀ w : InstrWord, (decode w).opcode ∈ ops →
      ∃ t, exec (decode w) s = .next t ∧ s.Raises t (.unimplementedOpcode (s.pc - 4#64) (decode w).opcode w))

/-- The Opcodes of the executed loads (R191 of 43_memory.md) and stores (R192). -/
def loadOpcodes : List Opcode := [.ldbu, .ldwu, .ldl, .ldq, .ldqU]
@[inherit_doc loadOpcodes] def storeOpcodes : List Opcode := [.stb, .stw, .stl, .stq, .stqU]

end Machine

end Sys2Proof
end

