-- ==== Sys2Proof/Certificates/Slice0/Obligations.lean ====
section
/-! DEFINITION. The statements for the provers. -/

section

open Sys2Proof Sys2Proof.Machine

/-- Reset gives every piece of state the value of the reset table (R38, R450). -/
def Obligations.ResetState : Prop :=
  ∀ cfg : Config, cfg.Valid → (∀ c ∈ cfg.imageInit, cfg.loadStart ≤ c.1 ∧ c.1 < cfg.loadEnd) →
    (∀ r : Reg, ((State.ofConfig cfg).reg r).toNat = if r = 26#5 ∨ r = 30#5 then cfg.stackEnd else 0) ∧
    (State.ofConfig cfg).pc = cfg.entry ∧
    (∀ a, (State.ofConfig cfg).mem.read a = Memory.read cfg.imageInit a) ∧
    (∀ a, cfg.stackStart ≤ a → a < cfg.stackEnd → (State.ofConfig cfg).mem.read a = 0#8) ∧
    (State.ofConfig cfg).out = [] ∧ (State.ofConfig cfg).status = .running ∧ (State.ofConfig cfg).cfg = cfg

/-- The image region and its reset bytes come from the segments: least start, greatest end, zero fill, last writer
wins (R56). -/
def Obligations.LoaderImage : Prop :=
  ∀ l : LoaderInput, l.segments ≠ [] → (∀ g ∈ l.segments, g.fileBytes ≠ []) →
    ∃ c, l.config = some c ∧
      (∃ g ∈ l.segments, c.loadStart = g.virtualAddress.toNat) ∧
      (∀ g ∈ l.segments, c.loadStart ≤ g.virtualAddress.toNat) ∧
      (∃ g ∈ l.segments, c.loadEnd = g.virtualAddress.toNat + g.fileBytes.length) ∧
      (∀ g ∈ l.segments, g.virtualAddress.toNat + g.fileBytes.length ≤ c.loadEnd) ∧
      (∀ a, (∀ g ∈ l.segments, a < g.virtualAddress.toNat ∨ g.virtualAddress.toNat + g.fileBytes.length ≤ a) →
        Memory.read c.imageInit a = 0#8) ∧
      (∀ before g after, l.segments = before ++ g :: after → ∀ (i : Nat) (h : i < g.fileBytes.length),
        (∀ g' ∈ after, g.virtualAddress.toNat + i < g'.virtualAddress.toNat ∨
          g'.virtualAddress.toNat + g'.fileBytes.length ≤ g.virtualAddress.toNat + i) →
        Memory.read c.imageInit (g.virtualAddress.toNat + i) = g.fileBytes[i]) ∧
      c.entry = l.entry ∧ c.textStart = l.textAddress.toNat ∧ c.textSize = l.textSize ∧
      c.stackStart = l.stackStart

/-- The state invariant holds after reset (R22, R32, R38). -/
def Obligations.InvariantAtReset : Prop :=
  (∀ cfg : Config, Memory.wf cfg.imageInit = true →
    (∀ c ∈ cfg.imageInit, cfg.loadStart ≤ c.1 ∧ c.1 < cfg.loadEnd) → (State.ofConfig cfg).Inv) ∧
  State.reset.Inv ∧ State.reset.cfg.Valid

/-- Every step keeps the invariant: canonical memory, no byte outside the regions, register slot 31 zero (R22, R32,
R51, R52). -/
def Obligations.InvariantKept : Prop :=
  ∀ s t : State, s.Inv → step s = .next t → t.Inv

/-- MemRead answers exactly the spans that fit one region, little-endian (R52, R58). -/
def Obligations.MemReadRule : Prop :=
  ∀ (s : State) (addr : Word) (n : Nat), n ∈ [1, 2, 4, 8] →
    (((s.cfg.loadStart ≤ addr.toNat ∧ addr.toNat + n ≤ s.cfg.loadEnd) ∨
      (s.cfg.stackStart ≤ addr.toNat ∧ addr.toNat + n ≤ s.cfg.stackEnd)) →
      ∃ v, s.memRead addr n = some v ∧ v.toNat = s.bytesAt addr.toNat n) ∧
    (¬ ((s.cfg.loadStart ≤ addr.toNat ∧ addr.toNat + n ≤ s.cfg.loadEnd) ∨
      (s.cfg.stackStart ≤ addr.toNat ∧ addr.toNat + n ≤ s.cfg.stackEnd)) → s.memRead addr n = none)

/-- MemWrite: the output port first, then the span check, then exactly n bytes, little-endian (R59, R61). -/
def Obligations.MemWriteRule : Prop :=
  ∀ (s : State) (addr : Word) (n : Nat) (v : Word), n ∈ [1, 2, 4, 8] →
    (n = 1 ∧ addr = 0x10000000#64 → ∃ t, s.memWrite addr n v = some t ∧ s.Emits t (v.extractLsb' 0 8)) ∧
    (¬ (n = 1 ∧ addr = 0x10000000#64) → ¬ s.cfg.Fits addr.toNat n → s.memWrite addr n v = none) ∧
    (¬ (n = 1 ∧ addr = 0x10000000#64) → s.cfg.Fits addr.toNat n →
      ∃ t, s.memWrite addr n v = some t ∧ s.Stores t addr.toNat n v)

/-- An access that would wrap past 2^64 or straddle the end of a region is never admitted (R53, R54). -/
def Obligations.WrapAndStraddle : Prop :=
  ∀ (s : State) (addr : Word) (n : Nat) (v : Word), s.cfg.Valid → n ∈ [1, 2, 4, 8] →
    (2 ^ 64 < addr.toNat + n ∨
      (s.cfg.loadStart ≤ addr.toNat ∧ addr.toNat < s.cfg.loadEnd ∧ s.cfg.loadEnd < addr.toNat + n) ∨
      (s.cfg.stackStart ≤ addr.toNat ∧ addr.toNat < s.cfg.stackEnd ∧ s.cfg.stackEnd < addr.toNat + n)) →
    s.memRead addr n = none ∧ s.memWrite addr n v = none

/-- Narrow reads of a stored quadword return its parts (R73, R57, R58, R59). -/
def Obligations.MixedWidthReads : Prop :=
  ∀ (s t : State) (a v : Word), s.cfg.Valid → s.memWrite a 8 v = some t →
    (∀ k : Nat, k < 8 →
      t.memRead (a + BitVec.ofNat 64 k) 1 = some ((v.extractLsb' (8 * k) 8).setWidth 64)) ∧
    (∀ k : Nat, k < 4 →
      t.memRead (a + BitVec.ofNat 64 (2 * k)) 2 = some ((v.extractLsb' (16 * k) 16).setWidth 64)) ∧
    t.memRead a 4 = some ((v.extractLsb' 0 32).setWidth 64) ∧
    t.memRead (a + 4#64) 4 = some ((v.extractLsb' 32 32).setWidth 64) ∧
    t.memRead a 8 = some v

/-- Canonical memories that read alike at every address are equal (R32, R58). -/
def Obligations.CanonicalMemory : Prop :=
  ∀ m m' : Memory, m.wf = true → m'.wf = true → (∀ a, m.read a = m'.read a) → m = m'

/-- Operand 2 is the register of bits 20:16 or the zero-extended literal of bits 20:13 (R149, R99, R118). -/
def Obligations.OperandTwo : Prop :=
  ∀ (s : State) (w : InstrWord),
    (w.getLsbD 12 = false → s.operand2 (operand2Field w) = s.reg (w.extractLsb' 16 5)) ∧
    (w.getLsbD 12 = true → (s.operand2 (operand2Field w)).toNat = (w.extractLsb' 13 8).toNat)

/-- addl, s4addl, s8addl, subl, s4subl, s8subl, mull: sext_32 of the low 32 bits of the exact result (R231, R232,
R233, R234, R235, R236, R250). -/
def Obligations.LongwordArithmetic : Prop :=
  ∀ (s : State) (ra rc : Reg) (b : Operand2),
    let av : Int := (s.reg ra).toNat
    let bv : Int := (s.operand2 b).toNat
    Runs (operateWord 0x10 ra b 0x00 rc) (.addl ra b rc) s (fun t => s.Sets t rc (longResult (av + bv)) s.pc) ∧
    Runs (operateWord 0x10 ra b 0x02 rc) (.s4addl ra b rc) s (fun t => s.Sets t rc (longResult (av * 4 + bv)) s.pc) ∧
    Runs (operateWord 0x10 ra b 0x12 rc) (.s8addl ra b rc) s (fun t => s.Sets t rc (longResult (av * 8 + bv)) s.pc) ∧
    Runs (operateWord 0x10 ra b 0x09 rc) (.subl ra b rc) s (fun t => s.Sets t rc (longResult (av - bv)) s.pc) ∧
    Runs (operateWord 0x10 ra b 0x0B rc) (.s4subl ra b rc) s (fun t => s.Sets t rc (longResult (av * 4 - bv)) s.pc) ∧
    Runs (operateWord 0x10 ra b 0x1B rc) (.s8subl ra b rc) s (fun t => s.Sets t rc (longResult (av * 8 - bv)) s.pc) ∧
    Runs (operateWord 0x13 ra b 0x00 rc) (.mull ra b rc) s (fun t => s.Sets t rc (longResult (av * bv)) s.pc)

/-- addq, s4addq, s8addq, subq, s4subq, s8subq, mulq: the exact result modulo 2^64 (R237, R238, R239, R240, R241,
R242, R251). -/
def Obligations.QuadwordArithmetic : Prop :=
  ∀ (s : State) (ra rc : Reg) (b : Operand2),
    let av : Int := (s.reg ra).toNat
    let bv : Int := (s.operand2 b).toNat
    Runs (operateWord 0x10 ra b 0x20 rc) (.addq ra b rc) s (fun t => s.Sets t rc (wrap (av + bv)) s.pc) ∧
    Runs (operateWord 0x10 ra b 0x22 rc) (.s4addq ra b rc) s (fun t => s.Sets t rc (wrap (av * 4 + bv)) s.pc) ∧
    Runs (operateWord 0x10 ra b 0x32 rc) (.s8addq ra b rc) s (fun t => s.Sets t rc (wrap (av * 8 + bv)) s.pc) ∧
    Runs (operateWord 0x10 ra b 0x29 rc) (.subq ra b rc) s (fun t => s.Sets t rc (wrap (av - bv)) s.pc) ∧
    Runs (operateWord 0x10 ra b 0x2B rc) (.s4subq ra b rc) s (fun t => s.Sets t rc (wrap (av * 4 - bv)) s.pc) ∧
    Runs (operateWord 0x10 ra b 0x3B rc) (.s8subq ra b rc) s (fun t => s.Sets t rc (wrap (av * 8 - bv)) s.pc) ∧
    Runs (operateWord 0x13 ra b 0x20 rc) (.mulq ra b rc) s (fun t => s.Sets t rc (wrap (av * bv)) s.pc)

/-- umulh: the high half of the exact product, which the 32-bit partial products give as well (R252). -/
def Obligations.MultiplyHigh : Prop :=
  ∀ (s : State) (ra rc : Reg) (b : Operand2),
    let av : Nat := (s.reg ra).toNat
    let bv : Nat := (s.operand2 b).toNat
    let ah := av / 2 ^ 32
    let al := av % 2 ^ 32
    let bh := bv / 2 ^ 32
    let bl := bv % 2 ^ 32
    let c := (al * bl / 2 ^ 32 + ah * bl % 2 ^ 32 + al * bh % 2 ^ 32) / 2 ^ 32
    Runs (operateWord 0x13 ra b 0x30 rc) (.umulh ra b rc) s
      (fun t => s.Sets t rc (BitVec.ofNat 64 (av * bv / 2 ^ 64)) s.pc) ∧
    av * bv / 2 ^ 64 = ah * bh + ah * bl / 2 ^ 32 + al * bh / 2 ^ 32 + c

/-- cmpeq, cmplt, cmple (signed), cmpult, cmpule (unsigned) write exactly 0 or 1 (R244, R245, R246, R247, R248,
R249). -/
def Obligations.QuadwordCompares : Prop :=
  ∀ (s : State) (ra rc : Reg) (b : Operand2),
    let av : Word := s.reg ra
    let bv : Word := s.operand2 b
    Runs (operateWord 0x10 ra b 0x2D rc) (.cmpeq ra b rc) s
      (fun t => s.Sets t rc (if av = bv then 1#64 else 0#64) s.pc) ∧
    Runs (operateWord 0x10 ra b 0x4D rc) (.cmplt ra b rc) s
      (fun t => s.Sets t rc (if av.toInt < bv.toInt then 1#64 else 0#64) s.pc) ∧
    Runs (operateWord 0x10 ra b 0x6D rc) (.cmple ra b rc) s
      (fun t => s.Sets t rc (if av.toInt ≤ bv.toInt then 1#64 else 0#64) s.pc) ∧
    Runs (operateWord 0x10 ra b 0x1D rc) (.cmpult ra b rc) s
      (fun t => s.Sets t rc (if av.toNat < bv.toNat then 1#64 else 0#64) s.pc) ∧
    Runs (operateWord 0x10 ra b 0x3D rc) (.cmpule ra b rc) s
      (fun t => s.Sets t rc (if av.toNat ≤ bv.toNat then 1#64 else 0#64) s.pc)

/-- cmpbge sets bit i of the result exactly where byte i of the first operand is at least that of the second,
unsigned (R243). -/
def Obligations.ByteCompare : Prop :=
  ∀ (s : State) (ra rc : Reg) (b : Operand2),
    let byteOfValue (v : Word) (i : Nat) : Nat := (v.extractLsb' (8 * i) 8).toNat
    let mask : Nat := ∑ i ∈ Finset.range 8,
      if byteOfValue (s.operand2 b) i ≤ byteOfValue (s.reg ra) i then 2 ^ i else 0
    Runs (operateWord 0x10 ra b 0x0F rc) (.cmpbge ra b rc) s
      (fun t => s.Sets t rc (BitVec.ofNat 64 mask) s.pc)

/-- and, bic, bis, ornot, xor, eqv: bit by bit on all 64 bits (R270, R271, R272, R273, R274, R275, R276). -/
def Obligations.Logical : Prop :=
  ∀ (s : State) (ra rc : Reg) (b : Operand2),
    let av : Word := s.reg ra
    let bv : Word := s.operand2 b
    Runs (operateWord 0x11 ra b 0x00 rc) (.and ra b rc) s (fun t =>
      ∃ v : Word, (∀ i : Nat, i < 64 → v.getLsbD i = (av.getLsbD i && bv.getLsbD i)) ∧ s.Sets t rc v s.pc) ∧
    Runs (operateWord 0x11 ra b 0x08 rc) (.bic ra b rc) s (fun t =>
      ∃ v : Word, (∀ i : Nat, i < 64 → v.getLsbD i = (av.getLsbD i && !bv.getLsbD i)) ∧ s.Sets t rc v s.pc) ∧
    Runs (operateWord 0x11 ra b 0x20 rc) (.bis ra b rc) s (fun t =>
      ∃ v : Word, (∀ i : Nat, i < 64 → v.getLsbD i = (av.getLsbD i || bv.getLsbD i)) ∧ s.Sets t rc v s.pc) ∧
    Runs (operateWord 0x11 ra b 0x28 rc) (.ornot ra b rc) s (fun t =>
      ∃ v : Word, (∀ i : Nat, i < 64 → v.getLsbD i = (av.getLsbD i || !bv.getLsbD i)) ∧ s.Sets t rc v s.pc) ∧
    Runs (operateWord 0x11 ra b 0x40 rc) (.xor ra b rc) s (fun t =>
      ∃ v : Word, (∀ i : Nat, i < 64 → v.getLsbD i = (xor (av.getLsbD i) (bv.getLsbD i))) ∧ s.Sets t rc v s.pc) ∧
    Runs (operateWord 0x11 ra b 0x48 rc) (.eqv ra b rc) s (fun t =>
      ∃ v : Word, (∀ i : Nat, i < 64 → v.getLsbD i = (xor (av.getLsbD i) (!bv.getLsbD i))) ∧ s.Sets t rc v s.pc)

/-- The eight conditional moves: operand 2 to rc if the test of x[ra] holds, nothing if not (R277, R278, R279, R280,
R281, R282, R283, R284, R285). -/
def Obligations.ConditionalMoves : Prop :=
  ∀ (s : State) (ra rc : Reg) (b : Operand2),
    let av : Word := s.reg ra
    MoveRule (operateWord 0x11 ra b 0x24 rc) (.cmoveq ra b rc) s (av.toNat = 0) rc (s.operand2 b) ∧
    MoveRule (operateWord 0x11 ra b 0x26 rc) (.cmovne ra b rc) s (av.toNat ≠ 0) rc (s.operand2 b) ∧
    MoveRule (operateWord 0x11 ra b 0x44 rc) (.cmovlt ra b rc) s (av.toInt < 0) rc (s.operand2 b) ∧
    MoveRule (operateWord 0x11 ra b 0x46 rc) (.cmovge ra b rc) s (0 ≤ av.toInt) rc (s.operand2 b) ∧
    MoveRule (operateWord 0x11 ra b 0x64 rc) (.cmovle ra b rc) s (av.toInt ≤ 0) rc (s.operand2 b) ∧
    MoveRule (operateWord 0x11 ra b 0x66 rc) (.cmovgt ra b rc) s (0 < av.toInt) rc (s.operand2 b) ∧
    MoveRule (operateWord 0x11 ra b 0x14 rc) (.cmovlbs ra b rc) s (av.toNat % 2 = 1) rc (s.operand2 b) ∧
    MoveRule (operateWord 0x11 ra b 0x16 rc) (.cmovlbc ra b rc) s (av.toNat % 2 = 0) rc (s.operand2 b)

/-- sll, srl, sra shift by the whole 64-bit count; counts of 64 and more give 0 or copies of the sign (R301, R302,
R304, R305, R306). -/
def Obligations.Shifts : Prop :=
  ∀ (s : State) (ra rc : Reg) (b : Operand2),
    let av : Word := s.reg ra
    let n : Nat := (s.operand2 b).toNat
    Runs (operateWord 0x12 ra b 0x39 rc) (.sll ra b rc) s
      (fun t => s.Sets t rc (if n < 64 then wrap (av.toNat * 2 ^ n : Int) else 0#64) s.pc) ∧
    Runs (operateWord 0x12 ra b 0x34 rc) (.srl ra b rc) s
      (fun t => s.Sets t rc (if n < 64 then BitVec.ofNat 64 (av.toNat / 2 ^ n) else 0#64) s.pc) ∧
    Runs (operateWord 0x12 ra b 0x3C rc) (.sra ra b rc) s
      (fun t => s.Sets t rc (wrap (av.toInt / 2 ^ min n 63)) s.pc)

/-- zap clears the bytes whose mask bit is 1, zapnot those whose mask bit is 0 (R307, R308). -/
def Obligations.ByteZeroing : Prop :=
  ∀ (s : State) (ra rc : Reg) (b : Operand2),
    Runs (operateWord 0x12 ra b 0x30 rc) (.zap ra b rc) s (fun t =>
      ∃ v : Word, (∀ i : Nat, i < 8 → v.extractLsb' (8 * i) 8 =
        if (s.operand2 b).getLsbD i = true then 0#8 else (s.reg ra).extractLsb' (8 * i) 8) ∧ s.Sets t rc v s.pc) ∧
    Runs (operateWord 0x12 ra b 0x31 rc) (.zapnot ra b rc) s (fun t =>
      ∃ v : Word, (∀ i : Nat, i < 8 → v.extractLsb' (8 * i) 8 =
        if (s.operand2 b).getLsbD i = false then 0#8 else (s.reg ra).extractLsb' (8 * i) 8) ∧ s.Sets t rc v s.pc)

/-- mskbl to mskqh clear the part of the lane L * 2^m that falls in this quadword (low) or the next (high) (R309,
R310, R311, R312, R313, R314, R315). -/
def Obligations.MaskLanes : Prop :=
  ∀ (s : State) (ra rc : Reg) (b : Operand2),
    let av : Word := s.reg ra
    let m : Nat := (s.operand2 b).toNat % 8 * 8
    Runs (operateWord 0x12 ra b 0x02 rc) (.mskbl ra b rc) s
      (fun t => s.Sets t rc (av &&& ~~~BitVec.ofNat 64 (0xFF * 2 ^ m)) s.pc) ∧
    Runs (operateWord 0x12 ra b 0x12 rc) (.mskwl ra b rc) s
      (fun t => s.Sets t rc (av &&& ~~~BitVec.ofNat 64 (0xFFFF * 2 ^ m)) s.pc) ∧
    Runs (operateWord 0x12 ra b 0x22 rc) (.mskll ra b rc) s
      (fun t => s.Sets t rc (av &&& ~~~BitVec.ofNat 64 (0xFFFFFFFF * 2 ^ m)) s.pc) ∧
    Runs (operateWord 0x12 ra b 0x32 rc) (.mskql ra b rc) s
      (fun t => s.Sets t rc (av &&& ~~~BitVec.ofNat 64 (0xFFFFFFFFFFFFFFFF * 2 ^ m)) s.pc) ∧
    Runs (operateWord 0x12 ra b 0x52 rc) (.mskwh ra b rc) s
      (fun t => s.Sets t rc (av &&& ~~~BitVec.ofNat 64 (0xFFFF * 2 ^ m / 2 ^ 64)) s.pc) ∧
    Runs (operateWord 0x12 ra b 0x62 rc) (.msklh ra b rc) s
      (fun t => s.Sets t rc (av &&& ~~~BitVec.ofNat 64 (0xFFFFFFFF * 2 ^ m / 2 ^ 64)) s.pc) ∧
    Runs (operateWord 0x12 ra b 0x72 rc) (.mskqh ra b rc) s
      (fun t => s.Sets t rc (av &&& ~~~BitVec.ofNat 64 (0xFFFFFFFFFFFFFFFF * 2 ^ m / 2 ^ 64)) s.pc)

/-- insbl to insqh move the low lane of x[ra] to byte offset operand 2 mod 8: the low or the high half (R316, R317,
R318, R319, R320, R321, R322). -/
def Obligations.InsertLanes : Prop :=
  ∀ (s : State) (ra rc : Reg) (b : Operand2),
    let av : Word := s.reg ra
    let m : Nat := (s.operand2 b).toNat % 8 * 8
    Runs (operateWord 0x12 ra b 0x0B rc) (.insbl ra b rc) s
      (fun t => s.Sets t rc (BitVec.ofNat 64 ((av &&& 0xFF#64).toNat * 2 ^ m)) s.pc) ∧
    Runs (operateWord 0x12 ra b 0x1B rc) (.inswl ra b rc) s
      (fun t => s.Sets t rc (BitVec.ofNat 64 ((av &&& 0xFFFF#64).toNat * 2 ^ m)) s.pc) ∧
    Runs (operateWord 0x12 ra b 0x2B rc) (.insll ra b rc) s
      (fun t => s.Sets t rc (BitVec.ofNat 64 ((av &&& 0xFFFFFFFF#64).toNat * 2 ^ m)) s.pc) ∧
    Runs (operateWord 0x12 ra b 0x3B rc) (.insql ra b rc) s
      (fun t => s.Sets t rc (BitVec.ofNat 64 ((av &&& 0xFFFFFFFFFFFFFFFF#64).toNat * 2 ^ m)) s.pc) ∧
    Runs (operateWord 0x12 ra b 0x57 rc) (.inswh ra b rc) s
      (fun t => s.Sets t rc (BitVec.ofNat 64 ((av &&& 0xFFFF#64).toNat * 2 ^ m / 2 ^ 64)) s.pc) ∧
    Runs (operateWord 0x12 ra b 0x67 rc) (.inslh ra b rc) s
      (fun t => s.Sets t rc (BitVec.ofNat 64 ((av &&& 0xFFFFFFFF#64).toNat * 2 ^ m / 2 ^ 64)) s.pc) ∧
    Runs (operateWord 0x12 ra b 0x77 rc) (.insqh ra b rc) s
      (fun t => s.Sets t rc (BitVec.ofNat 64 ((av &&& 0xFFFFFFFFFFFFFFFF#64).toNat * 2 ^ m / 2 ^ 64)) s.pc)

/-- extbl to extqh bring the lane at byte offset operand 2 mod 8 to byte 0; the high forms shift by (64 - m) mod 64
(R303, R323, R324, R325, R326, R327, R328, R329). -/
def Obligations.ExtractLanes : Prop :=
  ∀ (s : State) (ra rc : Reg) (b : Operand2),
    let av : Word := s.reg ra
    let m : Nat := (s.operand2 b).toNat % 8 * 8
    Runs (operateWord 0x12 ra b 0x06 rc) (.extbl ra b rc) s
      (fun t => s.Sets t rc (BitVec.ofNat 64 (av.toNat / 2 ^ m) &&& 0xFF#64) s.pc) ∧
    Runs (operateWord 0x12 ra b 0x16 rc) (.extwl ra b rc) s
      (fun t => s.Sets t rc (BitVec.ofNat 64 (av.toNat / 2 ^ m) &&& 0xFFFF#64) s.pc) ∧
    Runs (operateWord 0x12 ra b 0x26 rc) (.extll ra b rc) s
      (fun t => s.Sets t rc (BitVec.ofNat 64 (av.toNat / 2 ^ m) &&& 0xFFFFFFFF#64) s.pc) ∧
    Runs (operateWord 0x12 ra b 0x36 rc) (.extql ra b rc) s
      (fun t => s.Sets t rc (BitVec.ofNat 64 (av.toNat / 2 ^ m) &&& 0xFFFFFFFFFFFFFFFF#64) s.pc) ∧
    Runs (operateWord 0x12 ra b 0x5A rc) (.extwh ra b rc) s
      (fun t => s.Sets t rc (BitVec.ofNat 64 (av.toNat * 2 ^ ((64 - m) % 64)) &&& 0xFFFF#64) s.pc) ∧
    Runs (operateWord 0x12 ra b 0x6A rc) (.extlh ra b rc) s
      (fun t => s.Sets t rc (BitVec.ofNat 64 (av.toNat * 2 ^ ((64 - m) % 64)) &&& 0xFFFFFFFF#64) s.pc) ∧
    Runs (operateWord 0x12 ra b 0x7A rc) (.extqh ra b rc) s
      (fun t => s.Sets t rc (BitVec.ofNat 64 (av.toNat * 2 ^ ((64 - m) % 64)) &&& 0xFFFFFFFFFFFFFFFF#64) s.pc)

/-- sextb and sextw sign-extend the low byte or word of operand 2; the ra field is ignored (R351, R352). -/
def Obligations.SignExtension : Prop :=
  ∀ (s : State) (ra rc : Reg) (b : Operand2),
    let bv : Int := (s.operand2 b).toNat
    Runs (operateWord 0x1C ra b 0x00 rc) (.sextb ra b rc) s (fun t => s.Sets t rc (wrap (bv.bmod (2 ^ 8))) s.pc) ∧
    Runs (operateWord 0x1C ra b 0x01 rc) (.sextw ra b rc) s (fun t => s.Sets t rc (wrap (bv.bmod (2 ^ 16))) s.pc)

/-- An executed Operate instruction with rc = 31 changes no state (R150). -/
def Obligations.OperateDestination31 : Prop :=
  ∀ (i : Instr) (s : State), i.opcode ∈ executedArith ++ executedLogical ++ executedShift →
    (encode i).extractLsb' 0 5 = 31#5 → exec i s = .next s

/-- The effective address, the branch target and the aligned quadword address as exact integers modulo 2^64 (R190,
R160, R203). -/
def Obligations.AddressForms : Prop :=
  ∀ (s : State) (rb : Reg) (disp : BitVec 16) (bdisp : BitVec 21) (ea : Word),
    s.effAddr rb disp = wrap ((s.reg rb).toNat + disp.toInt) ∧
    s.branchTarget bdisp = wrap (s.pc.toNat + bdisp.toInt * 4) ∧
    (alignQuad ea).toNat = ea.toNat / 8 * 8

/-- lda and ldah compute an address into the destination without touching memory (R195, R196). -/
def Obligations.LoadAddress : Prop :=
  ∀ (s : State) (ra rb : Reg) (disp : BitVec 16),
    Runs (memoryWord 0x08 ra rb disp) (.lda ra rb disp) s
      (fun t => s.Sets t ra (wrap ((s.reg rb).toNat + disp.toInt)) s.pc) ∧
    Runs (memoryWord 0x09 ra rb disp) (.ldah ra rb disp) s
      (fun t => s.Sets t ra (wrap ((s.reg rb).toNat + disp.toInt * 65536)) s.pc)

/-- ldbu, ldwu, ldl, ldq, ldq_u: the value read, the fault of a span that does not fit, the no-operation of ra = 31
(R191, R197, R198, R199, R200, R203). -/
def Obligations.Loads : Prop :=
  ∀ (s : State) (ra rb : Reg) (disp : BitVec 16),
    let ea := s.effAddr rb disp
    LoadRule (memoryWord 0x0A ra rb disp) (.ldbu ra rb disp) s ra ea 1 (BitVec.ofNat 64) ∧
    LoadRule (memoryWord 0x0C ra rb disp) (.ldwu ra rb disp) s ra ea 2 (BitVec.ofNat 64) ∧
    LoadRule (memoryWord 0x28 ra rb disp) (.ldl ra rb disp) s ra ea 4 (fun v => longResult v) ∧
    LoadRule (memoryWord 0x29 ra rb disp) (.ldq ra rb disp) s ra ea 8 (BitVec.ofNat 64) ∧
    LoadRule (memoryWord 0x0B ra rb disp) (.ldqU ra rb disp) s ra (alignQuad ea) 8 (BitVec.ofNat 64)

/-- Loads to register 31 are no-operations: no access, no fault, whatever the address (R193). -/
def Obligations.LoadsToRegister31 : Prop :=
  ∀ (s : State) (rb : Reg) (disp : BitVec 16),
    ∀ i ∈ [Instr.ldbu 31#5 rb disp, .ldwu 31#5 rb disp, .ldl 31#5 rb disp, .ldq 31#5 rb disp, .ldqU 31#5 rb disp,
        .lds 31#5 rb disp, .ldt 31#5 rb disp, .lda 31#5 rb disp, .ldah 31#5 rb disp],
      exec i s = .next s

/-- stb, stw, stl, stq, stq_u: the bytes stored, the output port of stb, the fault of a span that does not fit
(R205, R206, R207, R208, R209). -/
def Obligations.Stores : Prop :=
  ∀ (s : State) (ra rb : Reg) (disp : BitVec 16),
    let ea := s.effAddr rb disp
    StoreRule (memoryWord 0x0E ra rb disp) (.stb ra rb disp) s ra ea 1 ∧
    StoreRule (memoryWord 0x0D ra rb disp) (.stw ra rb disp) s ra ea 2 ∧
    StoreRule (memoryWord 0x2C ra rb disp) (.stl ra rb disp) s ra ea 4 ∧
    StoreRule (memoryWord 0x2D ra rb disp) (.stq ra rb disp) s ra ea 8 ∧
    StoreRule (memoryWord 0x0F ra rb disp) (.stqU ra rb disp) s ra (alignQuad ea) 8

/-- lds and ldt do nothing with ra = 31 and raise UnimplementedOpcode otherwise (R214, R215). -/
def Obligations.PrefetchFloatLoads : Prop :=
  ∀ (s : State) (fa rb : Reg) (disp : BitVec 16),
    Runs (memoryWord 0x22 fa rb disp) (.lds fa rb disp) s (fun t =>
      (fa = 31#5 → s.Idle t) ∧
      (fa ≠ 31#5 → s.Raises t (.unimplementedOpcode (s.pc - 4#64) .lds (memoryWord 0x22 fa rb disp)))) ∧
    Runs (memoryWord 0x23 fa rb disp) (.ldt fa rb disp) s (fun t =>
      (fa = 31#5 → s.Idle t) ∧
      (fa ≠ 31#5 → s.Raises t (.unimplementedOpcode (s.pc - 4#64) .ldt (memoryWord 0x23 fa rb disp))))

/-- ldl_l, ldq_l, stl_c, stq_c, ldf, ldg, stf, stg, sts, stt always raise UnimplementedOpcode (R210, R211, R212,
R213, R216, R217, R218, R219, R220, R221). -/
def Obligations.DecodeOnlyMemory : Prop :=
  DecodeOnlyRule [.ldlL, .ldqL, .stlC, .stqC, .ldf, .ldg, .stf, .stg, .sts, .stt]

/-- br and bsr write the incremented pc to ra and go to npc + sext_21(disp21) * 4 (R162, R163, R164). -/
def Obligations.LinkBranches : Prop :=
  ∀ (s : State) (ra : Reg) (disp : BitVec 21),
    Runs (branchWord 0x30 ra disp) (.br ra disp) s
      (fun t => s.Sets t ra s.pc (wrap (s.pc.toNat + disp.toInt * 4))) ∧
    Runs (branchWord 0x34 ra disp) (.bsr ra disp) s
      (fun t => s.Sets t ra s.pc (wrap (s.pc.toNat + disp.toInt * 4)))

/-- The eight conditional branches: to npc + sext_21(disp21) * 4 if the test of x[ra] holds, else on (R160, R165,
R166, R167, R168, R169, R170, R171, R172). -/
def Obligations.ConditionalBranches : Prop :=
  ∀ (s : State) (ra : Reg) (disp : BitVec 21),
    let v : Word := s.reg ra
    let target : Word := wrap (s.pc.toNat + disp.toInt * 4)
    BranchRule (branchWord 0x39 ra disp) (.beq ra disp) s (v.toNat = 0) target ∧
    BranchRule (branchWord 0x3D ra disp) (.bne ra disp) s (v.toNat ≠ 0) target ∧
    BranchRule (branchWord 0x3A ra disp) (.blt ra disp) s (v.toInt < 0) target ∧
    BranchRule (branchWord 0x3B ra disp) (.ble ra disp) s (v.toInt ≤ 0) target ∧
    BranchRule (branchWord 0x3F ra disp) (.bgt ra disp) s (0 < v.toInt) target ∧
    BranchRule (branchWord 0x3E ra disp) (.bge ra disp) s (0 ≤ v.toInt) target ∧
    BranchRule (branchWord 0x38 ra disp) (.blbc ra disp) s (v.toNat % 2 = 0) target ∧
    BranchRule (branchWord 0x3C ra disp) (.blbs ra disp) s (v.toNat % 2 = 1) target

/-- A branch from an aligned pc leaves an aligned pc, and a branch cannot fault (R26, R161). -/
def Obligations.BranchTargetsAligned : Prop :=
  ∀ (s : State) (ra : Reg) (disp : BitVec 21), s.pc.toNat % 4 = 0 →
    ∀ i ∈ [Instr.br ra disp, .bsr ra disp, .beq ra disp, .bne ra disp, .blt ra disp, .ble ra disp, .bgt ra disp,
        .bge ra disp, .blbc ra disp, .blbs ra disp],
      ∃ t, exec i s = .next t ∧ t.pc.toNat % 4 = 0 ∧ t.status = s.status ∧ t.out = s.out ∧
        ∀ a, t.mem.read a = s.mem.read a

/-- The six floating branches always raise UnimplementedOpcode (R173, R174, R175, R176, R177, R178, R179). -/
def Obligations.FloatBranches : Prop :=
  DecodeOnlyRule [.fbeq, .fblt, .fble, .fbne, .fbge, .fbgt]

/-- jmp, jsr, ret, jsr_coroutine: the pc takes the old x[rb], unmasked, and ra the incremented pc (R180, R181, R182,
R183, R184). -/
def Obligations.Jumps : Prop :=
  ∀ (s : State) (ra rb : Reg) (jdisp : BitVec 14),
    Runs (jumpWord ra rb 0 jdisp) (.jmp ra rb jdisp) s (fun t => s.Sets t ra s.pc (s.reg rb)) ∧
    Runs (jumpWord ra rb 1 jdisp) (.jsr ra rb jdisp) s (fun t => s.Sets t ra s.pc (s.reg rb)) ∧
    Runs (jumpWord ra rb 2 jdisp) (.ret ra rb jdisp) s (fun t => s.Sets t ra s.pc (s.reg rb)) ∧
    Runs (jumpWord ra rb 3 jdisp) (.jsrCoroutine ra rb jdisp) s (fun t => s.Sets t ra s.pc (s.reg rb))

/-- A jump through a register that holds SENTINEL is followed by a halting step (R185, R142). -/
def Obligations.JumpToSentinelHalts : Prop :=
  ∀ (s : State) (ra rb : Reg) (jdisp : BitVec 14), s.cfg.Valid → s.status = .running →
    s.reg rb = s.cfg.sentinel →
    ∀ i ∈ [Instr.jmp ra rb jdisp, .jsr ra rb jdisp, .ret ra rb jdisp, .jsrCoroutine ra rb jdisp],
      ∃ t, exec i s = .next t ∧ ∃ u, step t = .next u ∧ u.status = .halted ∧ t.SameData u ∧ u.pc = t.pc

/-- The /v forms, amask, implver and the 18 other Opcodes of primary 0x1C always raise UnimplementedOpcode (R253,
R254, R255, R256, R257, R258, R259, R286, R287, R353). -/
def Obligations.DecodeOnlyOperate : Prop :=
  DecodeOnlyRule [
    .addlV, .sublV, .addqV, .subqV, .mullV, .mulqV, .amask, .implver, .ctpop, .perr, .ctlz, .cttz, .unpkbw,
    .unpkbl, .pkwb, .pklb, .minsb8, .minsw4, .minub8, .minuw4, .maxub8, .maxuw4, .maxsb8, .maxsw4, .ftoit,
    .ftois]

/-- call_pal, the placeholders, primary 0x18, the 54 floating Opcodes and Unknown always raise UnimplementedOpcode
(R500). -/
def Obligations.DecodeOnlyFormats : Prop :=
  DecodeOnlyRule [
    .trapb, .excb, .mb, .wmb, .fetch, .fetchM, .rpcc, .rc, .ecb, .rs, .wh64, .wh64en, .callPal, .opc01, .opc02,
    .opc03, .opc04, .opc05, .opc06, .opc07, .pal19, .pal1b, .pal1d, .pal1e, .pal1f, .itofs, .itoff, .itoft,
    .sqrtf, .sqrts, .sqrtg, .sqrtt, .addf, .subf, .mulf, .divf, .cvtdg, .addg, .subg, .mulg, .divg, .cmpgeq,
    .cmpglt, .cmpgle, .cvtgf, .cvtgd, .cvtgq, .cvtqf, .cvtqg, .adds, .subs, .muls, .divs, .addt, .subt, .mult,
    .divt, .cmptun, .cmpteq, .cmptlt, .cmptle, .cvtts, .cvttq, .cvtqs, .cvtqt, .cvtst, .cvtlq, .cpys, .cpysn,
    .cpyse, .mtFpcr, .mfFpcr, .fcmoveq, .fcmovne, .fcmovlt, .fcmovge, .fcmovle, .fcmovgt, .cvtql, .unknown]

/-- UnimplementedOpcode is raised by exactly the instructions outside the executed set (R147, R148, R426). -/
def Obligations.ExecutedSet : Prop :=
  ∀ (i : Instr) (s : State), s.status = .running →
    ∃ t, exec i s = .next t ∧
      ((∃ pc op w, t.status = .faulted (.unimplementedOpcode pc op w)) ↔ i.executes = false)

/-- Only the ten loads and stores of the executed set can fault; they raise AddressError only (R427, R429). -/
def Obligations.FaultFreeInstructions : Prop :=
  ∀ (i : Instr) (s : State), i.executes = true →
    ∃ t, exec i s = .next t ∧
      (t.status = s.status ∨
        (i.opcode ∈ loadOpcodes ++ storeOpcodes ∧ ∃ a, t.status = .faulted (.addressError (s.pc - 4#64) a)))

/-- A step runs the instruction decoded from the four bytes at the pc, with the pc already advanced (R141, R143,
R144, R145, R64). -/
def Obligations.StepRunsDecodedInstruction : Prop :=
  ∀ (s : State) (w : InstrWord) (i : Instr), s.cfg.Valid → s.status = .running → s.pc ≠ s.cfg.sentinel →
    s.pc.toNat % 4 = 0 → s.cfg.InText s.pc → s.cfg.Fits s.pc.toNat 4 →
    (∀ k : Nat, k < 4 → s.mem.read (s.pc.toNat + k) = w.extractLsb' (8 * k) 8) → decode w = i →
    step s = exec i (s.setPc (s.pc + 4#64))

/-- The halt test comes first; then a pc that is unaligned or outside the text segment faults (R142). -/
def Obligations.HaltTestAndPcCheck : Prop :=
  ∀ s : State, s.cfg.Valid → s.status = .running →
    (s.pc = s.cfg.sentinel → ∃ t, step s = .next t ∧ t.status = .halted ∧ s.SameData t ∧ t.pc = s.pc) ∧
    (s.pc ≠ s.cfg.sentinel →
      (s.pc.toNat % 4 ≠ 0 ∨
        ¬ (s.cfg.textStart ≤ s.pc.toNat ∧ s.pc.toNat + 4 ≤ s.cfg.textStart + s.cfg.textSize)) →
      ∃ t, step s = .next t ∧ s.Raises t (.invalidProgramCounter s.pc))

/-- A fetch outside the regions faults with AddressError(pc), the pc not advanced (R143). -/
def Obligations.FetchAddressError : Prop :=
  ∀ s : State, s.cfg.Valid → s.status = .running → s.pc ≠ s.cfg.sentinel → s.pc.toNat % 4 = 0 →
    s.cfg.InText s.pc → ¬ s.cfg.Fits s.pc.toNat 4 →
    ∃ t, step s = .next t ∧ s.Raises t (.addressError s.pc s.pc)

/-- Under a valid configuration a step has a next state exactly while the status is Running (R140, R33, R153). -/
def Obligations.RunEnds : Prop :=
  ∀ s : State, s.cfg.Valid →
    ((∃ t, step s = .next t) ↔ s.status = .running) ∧
    (s.status = .halted → step s = .fault .runHalted) ∧
    (∀ info, s.status = .faulted info → step s = .fault (.runFaulted info))

/-- A configuration that breaks a constraint is refused at every step (R4, R453). -/
def Obligations.BadConfigurationRefused : Prop :=
  ∀ s : State,
    (s.cfg.loadEnd ≤ s.cfg.loadStart ∨ 2 ^ 64 < s.cfg.loadEnd ∨ 2 ^ 64 ≤ s.cfg.stackStart + 0x100000 ∨
      (s.cfg.stackStart < s.cfg.loadEnd ∧ s.cfg.loadStart < s.cfg.stackStart + 0x100000)) →
    step s = .refused .badConfiguration

/-- A step halts exactly when the pc is SENTINEL; no instruction halts (R425, R142). -/
def Obligations.HaltOnlyAtSentinel : Prop :=
  ∀ s t : State, step s = .next t → (t.status = .halted ↔ s.pc = s.cfg.sentinel)

/-- A faulting step has no partial effect, and its record names the faulting instruction (R152, R142, R143, R148,
R422). -/
def Obligations.FaultsArePrecise : Prop :=
  ∀ (s t : State) (info : FaultRecord), step s = .next t → t.status = .faulted info →
    info.pc = s.pc ∧ s.SameData t ∧
    (info.cause = .invalidProgramCounter → t.pc = s.pc) ∧
    (info.cause = .addressError → t.pc = if s.cfg.Fits s.pc.toNat 4 then s.pc + 4#64 else s.pc) ∧
    (info.cause = .unimplementedOpcode → t.pc = s.pc + 4#64) ∧
    (∀ pc op w, info = .unimplementedOpcode pc op w →
      op = (decode w).opcode ∧ w.toNat = s.bytesAt s.pc.toNat 4)

/-- An instruction writes at most one register and at most one of memory and output; only stores write those (R151,
R60, R24). -/
def Obligations.OneEffectPerInstruction : Prop :=
  ∀ (i : Instr) (s : State), ∃ t, exec i s = .next t ∧
    (∃ r : Reg, ∀ q : Reg, q ≠ r → t.reg q = s.reg q) ∧
    ((∀ a, t.mem.read a = s.mem.read a) ∨ t.out = s.out) ∧
    (i.opcode ∉ storeOpcodes → (∀ a, t.mem.read a = s.mem.read a) ∧ t.out = s.out) ∧
    (i.opcode ∈ storeOpcodes → ∀ q : Reg, t.reg q = s.reg q) ∧
    (i.opcode ∉ executedBranch → t.pc = s.pc) ∧
    t.cfg = s.cfg

/-- The output only grows, by one byte at a time, and only by stb at OUTPUT_ADDR (R33, R61, R205). -/
def Obligations.OutputOnlyGrows : Prop :=
  ∀ s t : State, step s = .next t →
    t.out = s.out ∨
      ∃ ra rb disp, s.begin = .run (.stb ra rb disp) ∧ s.effAddr rb disp = 0x10000000#64 ∧
        t.out = s.out ++ [(s.reg ra).extractLsb' 0 8] ∧ ∀ a, t.mem.read a = s.mem.read a

/-- A step changes a memory byte only by a store, and only inside a region (R32, R51, R60). -/
def Obligations.MemoryChangesOnlyByStores : Prop :=
  ∀ (s t : State) (a : Nat), step s = .next t → t.mem.read a ≠ s.mem.read a →
    (∃ i, s.begin = .run i ∧ i.opcode ∈ storeOpcodes) ∧
    ((s.cfg.loadStart ≤ a ∧ a < s.cfg.loadEnd) ∨ (s.cfg.stackStart ≤ a ∧ a < s.cfg.stackEnd))

/-- A store to the next pc is seen by the next fetch, with no fence (R71, R207). -/
def Obligations.FetchSeesStores : Prop :=
  ∀ (s : State) (ra rb : Reg) (disp : BitVec 16), s.cfg.Valid → s.status = .running →
    s.pc ≠ s.cfg.sentinel → s.pc.toNat % 4 = 0 → s.cfg.InText s.pc → s.cfg.Fits s.pc.toNat 4 →
    s.effAddr rb disp = s.pc →
    ∃ t, exec (.stl ra rb disp) s = .next t ∧
      step t = exec (decode ((s.reg ra).extractLsb' 0 32)) (t.setPc (t.pc + 4#64))

/-- Two words that differ only in ignored bits decode to the same Opcode and Format and execute identically, up to
the word a fault record carries (R100, R117, R148, R422). -/
def Obligations.IgnoredBits : Prop :=
  (∀ w w' : InstrWord, w &&& ~~~ignoredBits w = w' &&& ~~~ignoredBits w →
    decodePair w = decodePair w' ∧
    ((decode w).executes = true → ∀ s, exec (decode w) s = exec (decode w') s) ∧
    ((decode w).executes = false → ∀ s,
      exec (decode w) s = .next (s.raise (.unimplementedOpcode (s.pc - 4#64) (decode w).opcode w)) ∧
      exec (decode w') s = .next (s.raise (.unimplementedOpcode (s.pc - 4#64) (decode w).opcode w')))) ∧
  (∀ w w' : InstrWord, w.extractLsb' 26 6 = 0x1A#6 → w.extractLsb' 16 16 = w'.extractLsb' 16 16 →
    ∀ s, exec (decode w) s = exec (decode w') s)

/-- A word decodes to Unknown exactly if its secondary field is in no table of its primary opcode (disallowed
floating qualifiers: log entry 8) (R120, R102, R527). -/
def Obligations.UnknownExactly : Prop :=
  ∀ w : InstrWord, (decode w).opcode = .unknown ↔ unallocated w = true

/-- The Format is a function of the primary opcode alone, by the 64-row table (the placeholders: log entry 9) (R92).
-/
def Obligations.FormatTable : Prop :=
  ∀ w : InstrWord,
    let opc := (w.extractLsb' 26 6).toNat
    (opc = 0x00 → (decodePair w).2 = .palCall) ∧
    (0x01 ≤ opc → opc ≤ 0x07 → (decodePair w).2 = .unknown) ∧
    (0x08 ≤ opc → opc ≤ 0x0F → (decodePair w).2 = .memory) ∧
    (0x10 ≤ opc → opc ≤ 0x13 → (decodePair w).2 = .operate) ∧
    (0x14 ≤ opc → opc ≤ 0x17 → (decodePair w).2 = .floatingPoint) ∧
    (opc = 0x18 → (decodePair w).2 = .memoryFormatCompute) ∧
    (opc = 0x19 → (decodePair w).2 = .unknown) ∧
    (opc = 0x1A → (decodePair w).2 = .memoryBranch) ∧
    (opc = 0x1B → (decodePair w).2 = .unknown) ∧
    (opc = 0x1C → (decodePair w).2 = .operate) ∧
    (0x1D ≤ opc → opc ≤ 0x1F → (decodePair w).2 = .unknown) ∧
    (0x20 ≤ opc → opc ≤ 0x2F → (decodePair w).2 = .memory) ∧
    (0x30 ≤ opc → (decodePair w).2 = .branch)

/-- One word of each Format decodes to the instruction the spec says it is (R121, R95, R96, R97, R98, R99, R101,
R117). -/
def Obligations.DecodeWords : Prop :=
  decode 0x47FF041F#32 = .bis 31#5 (.reg 31#5 0#3) 31#5 ∧
  decode 0x40391003#32 = .addl 1#5 (.lit 200#8) 3#5 ∧
  decode 0xA4220008#32 = .ldq 1#5 2#5 8#16 ∧
  decode 0xC0200005#32 = .br 1#5 5#21 ∧
  decode 0x6B5B4000#32 = .jsr 26#5 27#5 0#14 ∧
  decode 0x63FF4000#32 = .mb 31#5 31#5 ∧
  decode 0x5822B403#32 = .addt 1#5 2#5 0x5A0#11 3#5 ∧
  decode 0x00000083#32 = .callPal 0x83#26 ∧
  decode 0x04155555#32 = .opc01 0x155555#26 ∧
  decode 0x63FF4001#32 = .unknown 0x63FF4001#32

/-- Decoding the encoding of a well-formed instruction gives it back, for all 213 constructors and every operand
(R91, R95, R96, R97, R98, R99, R101, R102, R110, R117). -/
def Obligations.DecodeOfEncode : Prop :=
  ∀ i : Instr, i.wellFormed = true → decode (encode i) = i

/-- Every one of the 2^32 words decodes to a well-formed instruction that encodes back to it (R90, R91, R102, R120).
-/
def Obligations.EncodeOfDecode : Prop :=
  ∀ w : InstrWord, (decode w).wellFormed = true ∧ encode (decode w) = w

/-- extql of the low and extqh of the high aligned quadword, ORed, are the quadword at an unaligned address (R330,
R203, R326, R329). -/
def Obligations.UnalignedLoad : Prop :=
  ∀ (s : State) (rl rh rd : Reg) (b : Operand2) (a : Nat), rd ≠ 31#5 → a + 7 < 2 ^ 64 →
    (s.operand2 b).toNat = a →
    (s.reg rl).toNat = s.bytesAt (a / 8 * 8) 8 → (s.reg rh).toNat = s.bytesAt ((a + 7) / 8 * 8) 8 →
    ∃ t u, exec (.extql rl b rd) s = .next t ∧ exec (.extqh rh b rd) s = .next u ∧
      (t.reg rd ||| u.reg rd).toNat = s.bytesAt a 8

end
end

