-- ==== Sys2Proof/Laws/Encoding.lean ====
section
/-! SUPPORT. The fields of an encoded word: what each field reader of the decoder gives on each word writer of the
encoder (R94 to R101 of spec/30_encoding.md). -/

namespace Sys2Proof

variable (opc : BitVec 6) (ra rb rc : Reg) (b : Operand2)

@[simp] theorem opcField_memoryWord (disp : BitVec 16) : opcField (memoryWord opc ra rb disp) = opc := by
  apply BitVec.eq_of_getLsbD_eq
  intro i hi
  simp [opcField, memoryWord]
  grind

@[simp] theorem raField_memoryWord (disp : BitVec 16) : raField (memoryWord opc ra rb disp) = ra := by
  apply BitVec.eq_of_getLsbD_eq
  intro i hi
  simp [raField, memoryWord]
  grind

@[simp] theorem rbField_memoryWord (disp : BitVec 16) : rbField (memoryWord opc ra rb disp) = rb := by
  apply BitVec.eq_of_getLsbD_eq
  intro i hi
  simp [rbField, memoryWord]
  grind

@[simp] theorem disp16Field_memoryWord (disp : BitVec 16) : disp16Field (memoryWord opc ra rb disp) = disp := by
  apply BitVec.eq_of_getLsbD_eq
  intro i hi
  simp [disp16Field, memoryWord]
  grind

@[simp] theorem opcField_branchWord (disp : BitVec 21) : opcField (branchWord opc ra disp) = opc := by
  apply BitVec.eq_of_getLsbD_eq
  intro i hi
  simp [opcField, branchWord]
  grind

@[simp] theorem raField_branchWord (disp : BitVec 21) : raField (branchWord opc ra disp) = ra := by
  apply BitVec.eq_of_getLsbD_eq
  intro i hi
  simp [raField, branchWord]
  grind

@[simp] theorem disp21Field_branchWord (disp : BitVec 21) : disp21Field (branchWord opc ra disp) = disp := by
  apply BitVec.eq_of_getLsbD_eq
  intro i hi
  simp [disp21Field, branchWord]
  grind

@[simp] theorem opcField_jumpWord (hint : BitVec 2) (jdisp : BitVec 14) : opcField (jumpWord ra rb hint jdisp) = 0x1A#6 := by
  apply BitVec.eq_of_getLsbD_eq
  intro i hi
  simp [opcField, jumpWord]
  grind

@[simp] theorem raField_jumpWord (hint : BitVec 2) (jdisp : BitVec 14) : raField (jumpWord ra rb hint jdisp) = ra := by
  apply BitVec.eq_of_getLsbD_eq
  intro i hi
  simp [raField, jumpWord]
  grind

@[simp] theorem rbField_jumpWord (hint : BitVec 2) (jdisp : BitVec 14) : rbField (jumpWord ra rb hint jdisp) = rb := by
  apply BitVec.eq_of_getLsbD_eq
  intro i hi
  simp [rbField, jumpWord]
  grind

@[simp] theorem hintField_jumpWord (hint : BitVec 2) (jdisp : BitVec 14) : hintField (jumpWord ra rb hint jdisp) = hint := by
  apply BitVec.eq_of_getLsbD_eq
  intro i hi
  simp [hintField, jumpWord]
  grind

@[simp] theorem jdispField_jumpWord (hint : BitVec 2) (jdisp : BitVec 14) : jdispField (jumpWord ra rb hint jdisp) = jdisp := by
  apply BitVec.eq_of_getLsbD_eq
  intro i hi
  simp [jdispField, jumpWord]
  grind

@[simp] theorem opcField_computeWord (fn : BitVec 16) : opcField (computeWord ra rb fn) = 0x18#6 := by
  apply BitVec.eq_of_getLsbD_eq
  intro i hi
  simp [opcField, computeWord]
  grind

@[simp] theorem raField_computeWord (fn : BitVec 16) : raField (computeWord ra rb fn) = ra := by
  apply BitVec.eq_of_getLsbD_eq
  intro i hi
  simp [raField, computeWord]
  grind

@[simp] theorem rbField_computeWord (fn : BitVec 16) : rbField (computeWord ra rb fn) = rb := by
  apply BitVec.eq_of_getLsbD_eq
  intro i hi
  simp [rbField, computeWord]
  grind

@[simp] theorem func16Field_computeWord (fn : BitVec 16) : func16Field (computeWord ra rb fn) = fn := by
  apply BitVec.eq_of_getLsbD_eq
  intro i hi
  simp [func16Field, computeWord]
  grind

@[simp] theorem opcField_operateWord (fn : BitVec 7) : opcField (operateWord opc ra b fn rc) = opc := by
  apply BitVec.eq_of_getLsbD_eq
  intro i hi
  simp [opcField, operateWord]
  grind

@[simp] theorem raField_operateWord (fn : BitVec 7) : raField (operateWord opc ra b fn rc) = ra := by
  apply BitVec.eq_of_getLsbD_eq
  intro i hi
  simp [raField, operateWord]
  grind

@[simp] theorem rcField_operateWord (fn : BitVec 7) : rcField (operateWord opc ra b fn rc) = rc := by
  apply BitVec.eq_of_getLsbD_eq
  intro i hi
  simp [rcField, operateWord]
  grind

@[simp] theorem func7Field_operateWord (fn : BitVec 7) : func7Field (operateWord opc ra b fn rc) = fn := by
  apply BitVec.eq_of_getLsbD_eq
  intro i hi
  simp [func7Field, operateWord]
  grind

@[simp] theorem operand2Field_operateWord (fn : BitVec 7) : operand2Field (operateWord opc ra b fn rc) = b := by
  have bit : (operateWord opc ra b fn rc).getLsbD 12 = b.bits.getLsbD 0 := by
    simp only [operateWord, BitVec.getLsbD_append]
    rfl
  cases b with
  | reg r k =>
    have hr : (operateWord opc ra (.reg r k) fn rc).extractLsb' 16 5 = r := by
      apply BitVec.eq_of_getLsbD_eq
      intro i hi
      simp [operateWord, Operand2.bits]
      grind
    have hk : (operateWord opc ra (.reg r k) fn rc).extractLsb' 13 3 = k := by
      apply BitVec.eq_of_getLsbD_eq
      intro i hi
      simp [operateWord, Operand2.bits]
      grind
    have h0 : (Operand2.reg r k).bits.getLsbD 0 = false := by simp only [Operand2.bits, BitVec.getLsbD_append]; rfl
    rw [operand2Field, bit, h0, hr, hk]
    rfl
  | lit v =>
    have hv : (operateWord opc ra (.lit v) fn rc).extractLsb' 13 8 = v := by
      apply BitVec.eq_of_getLsbD_eq
      intro i hi
      simp [operateWord, Operand2.bits]
      grind
    have h1 : (Operand2.lit v).bits.getLsbD 0 = true := by simp only [Operand2.bits, BitVec.getLsbD_append]; rfl
    rw [operand2Field, bit, h1, hv]
    rfl

@[simp] theorem opcField_floatWord (fn : BitVec 11) : opcField (floatWord opc ra rb fn rc) = opc := by
  apply BitVec.eq_of_getLsbD_eq
  intro i hi
  simp [opcField, floatWord]
  grind

@[simp] theorem raField_floatWord (fn : BitVec 11) : raField (floatWord opc ra rb fn rc) = ra := by
  apply BitVec.eq_of_getLsbD_eq
  intro i hi
  simp [raField, floatWord]
  grind

@[simp] theorem rbField_floatWord (fn : BitVec 11) : rbField (floatWord opc ra rb fn rc) = rb := by
  apply BitVec.eq_of_getLsbD_eq
  intro i hi
  simp [rbField, floatWord]
  grind

@[simp] theorem rcField_floatWord (fn : BitVec 11) : rcField (floatWord opc ra rb fn rc) = rc := by
  apply BitVec.eq_of_getLsbD_eq
  intro i hi
  simp [rcField, floatWord]
  grind

@[simp] theorem func11Field_floatWord (fn : BitVec 11) : func11Field (floatWord opc ra rb fn rc) = fn := by
  apply BitVec.eq_of_getLsbD_eq
  intro i hi
  simp [func11Field, floatWord]
  grind

@[simp] theorem opcField_low26Word (low : BitVec 26) : opcField (low26Word opc low) = opc := by
  apply BitVec.eq_of_getLsbD_eq
  intro i hi
  simp [opcField, low26Word]
  grind

@[simp] theorem low26Field_low26Word (low : BitVec 26) : low26Field (low26Word opc low) = low := by
  apply BitVec.eq_of_getLsbD_eq
  intro i hi
  simp [low26Field, low26Word]
  grind

end Sys2Proof
end

