-- ==== Sys2Proof/Laws/Memory.lean ====
section
/-! SUPPORT. The laws of memory: what a byte reads after a write, and that every operation keeps the canonical
form. -/

namespace Sys2Proof.Machine

/-! ### One byte -/

theorem Memory.read_erase (m : Memory) (a k : Nat) :
    Memory.read (m.erase a) k = if k = a then unlisted else m.read k := by
  induction m with
  | nil => simp [Memory.erase, Memory.read]
  | cons c m ih =>
    obtain ⟨j, b⟩ := c
    by_cases hj : j = a
    · subst hj
      by_cases hk : k = j
      · subst hk; simpa [Memory.erase] using ih
      · simp [Memory.erase, ih, hk, Memory.read, Ne.symm hk]
    · by_cases hk : k = a
      · subst hk; simp [Memory.erase, hj, Memory.read, ih]
      · simp [Memory.erase, hj, Memory.read, ih, hk]

theorem Memory.read_insert (m : Memory) (a k : Nat) (b : Byte) (h : a ∉ m.map Prod.fst) :
    Memory.read (m.insert a b) k = if k = a then b else m.read k := by
  induction m with
  | nil => simp only [Memory.insert, Memory.read]; by_cases hk : k = a <;> simp [hk, eq_comm (a := a)]
  | cons c m ih =>
    obtain ⟨j, d⟩ := c
    simp only [List.map_cons, List.mem_cons, not_or] at h
    by_cases hj : a < j
    · simp only [Memory.insert, hj, if_true, Memory.read]
      by_cases hk : k = a
      · simp [hk]
      · simp [hk, Ne.symm hk]
    · simp only [Memory.insert, hj, if_false, Memory.read, ih h.2]
      by_cases hk : k = a
      · subst hk; simp [Ne.symm h.1]
      · simp [hk]

theorem Memory.erase_notMem (m : Memory) (a : Nat) : a ∉ (m.erase a).map Prod.fst := by
  induction m with
  | nil => simp [Memory.erase]
  | cons c m ih =>
    obtain ⟨j, b⟩ := c
    by_cases hj : j = a
    · simpa [Memory.erase, hj] using ih
    · simp only [Memory.erase, hj, if_false, List.map_cons, List.mem_cons, not_or]
      exact ⟨fun e => hj e.symm, ih⟩

/-- A byte after one byte is written. -/
theorem Memory.read_write (m : Memory) (a k : Nat) (b : Byte) :
    Memory.read (m.write a b) k = if k = a then b else m.read k := by
  unfold Memory.write
  split
  · rename_i h; subst h; exact Memory.read_erase m a k
  · rw [Memory.read_insert _ _ _ _ (Memory.erase_notMem m a), Memory.read_erase]
    split <;> rfl

/-! ### The canonical form -/

/-- The canonical form, as a property of the head and of the rest. -/
theorem Memory.wf_cons (k : Nat) (b : Byte) (m : Memory) :
    Memory.wf ((k, b) :: m) = true ↔ b ≠ unlisted ∧ (∀ c ∈ m, k < c.1) ∧ Memory.wf m = true := by
  induction m generalizing k b with
  | nil => simp [Memory.wf]
  | cons c m ih =>
    obtain ⟨j, d⟩ := c
    have := ih j d
    simp only [Memory.wf, Bool.and_eq_true, bne_iff_ne, ne_eq, decide_eq_true_eq, List.mem_cons]
    constructor
    · rintro ⟨⟨hb, hk⟩, hm⟩
      refine ⟨hb, ?_, hm⟩
      rintro c (rfl | hc)
      · exact hk
      · exact lt_trans hk ((this.1 hm).2.1 c hc)
    · rintro ⟨hb, hk, hm⟩
      exact ⟨⟨hb, hk _ (Or.inl rfl)⟩, hm⟩

theorem Memory.mem_erase (m : Memory) (a : Nat) (c : Host.Cell) : c ∈ m.erase a ↔ c ∈ m ∧ c.1 ≠ a := by
  induction m with
  | nil => simp [Memory.erase]
  | cons d m ih =>
    obtain ⟨j, b⟩ := d
    by_cases hj : j = a
    · simp only [Memory.erase, hj, if_true, ih, List.mem_cons]
      constructor
      · rintro ⟨h1, h2⟩; exact ⟨Or.inr h1, h2⟩
      · rintro ⟨rfl | h1, h2⟩
        · exact absurd rfl h2
        · exact ⟨h1, h2⟩
    · simp only [Memory.erase, hj, if_false, ih, List.mem_cons]
      constructor
      · rintro (rfl | ⟨h1, h2⟩)
        · exact ⟨Or.inl rfl, hj⟩
        · exact ⟨Or.inr h1, h2⟩
      · rintro ⟨rfl | h1, h2⟩
        · exact Or.inl rfl
        · exact Or.inr ⟨h1, h2⟩

theorem Memory.mem_insert (m : Memory) (a : Nat) (b : Byte) (c : Host.Cell) :
    c ∈ m.insert a b ↔ c = (a, b) ∨ c ∈ m := by
  induction m with
  | nil => simp [Memory.insert]
  | cons d m ih =>
    obtain ⟨j, e⟩ := d
    by_cases hj : a < j
    · simp [Memory.insert, hj]
    · simp only [Memory.insert, hj, if_false, List.mem_cons, ih]
      constructor
      · rintro (h | h | h) <;> simp [h]
      · rintro (h | h | h) <;> simp [h]

/-- An entry after one byte is written is the new one or an old one. -/
theorem Memory.mem_write (m : Memory) (a : Nat) (b : Byte) (c : Host.Cell) (h : c ∈ m.write a b) :
    c.1 = a ∨ c ∈ m := by
  unfold Memory.write at h
  split at h
  · exact Or.inr ((Memory.mem_erase m a c).1 h).1
  · rcases (Memory.mem_insert _ _ _ _).1 h with h | h
    · exact Or.inl (by rw [h])
    · exact Or.inr ((Memory.mem_erase m a c).1 h).1

theorem Memory.wf_erase (m : Memory) (a : Nat) (h : m.wf = true) : (m.erase a).wf = true := by
  induction m with
  | nil => rfl
  | cons c m ih =>
    obtain ⟨j, b⟩ := c
    rw [Memory.wf_cons] at h
    by_cases hj : j = a
    · simpa [Memory.erase, hj] using ih h.2.2
    · simp only [Memory.erase, hj, if_false, Memory.wf_cons]
      exact ⟨h.1, fun c hc => h.2.1 c ((Memory.mem_erase m a c).1 hc).1, ih h.2.2⟩

theorem Memory.wf_insert (m : Memory) (a : Nat) (b : Byte) (hb : b ≠ unlisted) (ha : a ∉ m.map Prod.fst)
    (h : m.wf = true) : (m.insert a b).wf = true := by
  induction m with
  | nil => simp [Memory.insert, Memory.wf, hb]
  | cons c m ih =>
    obtain ⟨j, d⟩ := c
    have h' := (Memory.wf_cons j d m).1 h
    simp only [List.map_cons, List.mem_cons, not_or] at ha
    by_cases hj : a < j
    · simp only [Memory.insert, hj, if_true, Memory.wf_cons a]
      refine ⟨hb, ?_, h⟩
      rintro c hc
      rcases List.mem_cons.1 hc with rfl | hc
      · exact hj
      · exact lt_trans hj (h'.2.1 c hc)
    · simp only [Memory.insert, hj, if_false, Memory.wf_cons j]
      refine ⟨h'.1, ?_, ih ha.2 h'.2.2⟩
      intro c hc
      rcases (Memory.mem_insert _ _ _ _).1 hc with rfl | hc
      · exact lt_of_le_of_ne (Nat.le_of_not_lt hj) (fun e => ha.1 e.symm)
      · exact h'.2.1 c hc

/-- Writing one byte keeps the canonical form. -/
theorem Memory.wf_write (m : Memory) (a : Nat) (b : Byte) (h : m.wf = true) : (m.write a b).wf = true := by
  unfold Memory.write
  split
  · exact Memory.wf_erase m a h
  · exact Memory.wf_insert _ a b ‹_› (Memory.erase_notMem m a) (Memory.wf_erase m a h)

/-! ### Several bytes -/

/-- Writing several bytes keeps the canonical form. -/
theorem Memory.wf_writeLE (m : Memory) (a n : Nat) (v : Word) (h : m.wf = true) : (m.writeLE a n v).wf = true := by
  induction n generalizing m a v with
  | zero => exact h
  | succ n ih => exact ih _ _ _ (Memory.wf_write m a _ h)

/-- An entry after several bytes are written lies in the span written or is an old one. -/
theorem Memory.mem_writeLE (m : Memory) (a n : Nat) (v : Word) (c : Host.Cell) (h : c ∈ m.writeLE a n v) :
    (a ≤ c.1 ∧ c.1 < a + n) ∨ c ∈ m := by
  induction n generalizing m a v with
  | zero => exact Or.inr h
  | succ n ih =>
    rcases ih _ _ _ h with ⟨h1, h2⟩ | h1
    · exact Or.inl ⟨by omega, by omega⟩
    · rcases Memory.mem_write _ _ _ _ h1 with h2 | h2
      · exact Or.inl ⟨by omega, by omega⟩
      · exact Or.inr h2

/-- A byte outside the span written reads as before. -/
theorem Memory.read_writeLE_outside (m : Memory) (a n k : Nat) (v : Word) (h : k < a ∨ a + n ≤ k) :
    Memory.read (m.writeLE a n v) k = m.read k := by
  induction n generalizing m a v with
  | zero => rfl
  | succ n ih =>
    rw [Memory.writeLE, ih _ _ _ (by omega), Memory.read_write, if_neg (by omega)]

/-- A byte inside the span written reads the byte of the value stored there. -/
theorem Memory.read_writeLE_inside (m : Memory) (a n i : Nat) (v : Word) (h : i < n) :
    Memory.read (m.writeLE a n v) (a + i) = v.extractLsb' (8 * i) 8 := by
  induction n generalizing m a i v with
  | zero => omega
  | succ n ih =>
    rw [Memory.writeLE]
    cases i with
    | zero =>
      rw [Memory.read_writeLE_outside _ _ _ _ _ (by omega), Memory.read_write, if_pos (by omega)]
      apply BitVec.eq_of_getLsbD_eq
      intro j hj
      simp
    | succ i =>
      rw [show a + (i + 1) = (a + 1) + i by omega, ih _ _ _ _ (by omega)]
      apply BitVec.eq_of_getLsbD_eq
      intro j hj
      simp only [BitVec.getLsbD_extractLsb', BitVec.getLsbD_ushiftRight]
      rw [show 8 + (8 * i + j) = 8 * (i + 1) + j by omega]

/-- The value read is below `256 ^ n`. -/
theorem Memory.readLE_lt (m : Memory) (a n : Nat) : m.readLE a n < 256 ^ n := by
  induction n generalizing a with
  | zero => simp [Memory.readLE]
  | succ n ih =>
    have h1 := (m.read a).isLt
    have h2 := ih (a + 1)
    simp only [Memory.readLE, pow_succ]
    omega

/-- Memories that read alike over a span give the same number. -/
theorem Memory.readLE_congr (m m' : Memory) (a n : Nat) (h : ∀ i < n, m.read (a + i) = m'.read (a + i)) :
    m.readLE a n = m'.readLE a n := by
  induction n generalizing a with
  | zero => rfl
  | succ n ih =>
    have h0 := h 0 (by omega)
    rw [Nat.add_zero] at h0
    rw [Memory.readLE, Memory.readLE, h0, ih (a + 1) fun i hi => by
      rw [show a + 1 + i = a + (i + 1) by omega]; exact h _ (by omega)]

/-! ### The loader -/

theorem Memory.wf_placeBytes (m : Memory) (a : Nat) (bs : List Byte) (h : m.wf = true) :
    (placeBytes m a bs).wf = true := by
  induction bs generalizing m a with
  | nil => exact h
  | cons b bs ih => exact ih _ _ (Memory.wf_write m a b h)

/-- The image the loader places has the canonical form. -/
theorem Memory.wf_placeSegments (m : Memory) (gs : List Segment) (h : m.wf = true) :
    (placeSegments m gs).wf = true := by
  induction gs generalizing m with
  | nil => exact h
  | cons g gs ih => exact ih _ (Memory.wf_placeBytes m _ _ h)

/-- Memory after reset has the canonical form. -/
theorem State.reset_wf : State.reset.mem.wf = true := rfl

end Sys2Proof.Machine
end

