-- ==== Sys2Proof/Laws/State.lean ====
section
/-! SUPPORT. One lemma per field of State per update, and what a register reads after a write. -/

namespace Sys2Proof.Machine

variable (s : State) (r q : Reg) (v : Word) (b : Byte) (info : FaultRecord)

/-! ### `setReg` -/

@[simp] theorem State.setReg_cfg : (s.setReg r v).cfg = s.cfg := by unfold State.setReg; split <;> rfl
@[simp] theorem State.setReg_pc : (s.setReg r v).pc = s.pc := by unfold State.setReg; split <;> rfl
@[simp] theorem State.setReg_mem : (s.setReg r v).mem = s.mem := by unfold State.setReg; split <;> rfl
@[simp] theorem State.setReg_out : (s.setReg r v).out = s.out := by unfold State.setReg; split <;> rfl
@[simp] theorem State.setReg_status : (s.setReg r v).status = s.status := by unfold State.setReg; split <;> rfl
@[simp] theorem State.setReg_zero : s.setReg 31#5 v = s := by simp [State.setReg]
@[simp] theorem State.reg_zero : s.reg 31#5 = 0#64 := by simp [State.reg]

/-- Slot 31 is never written. -/
@[simp] theorem State.setReg_slot31 : (s.setReg r v).regs[31] = s.regs[31] := by
  unfold State.setReg
  split
  · rfl
  · rename_i h
    have hn : r.toNat ≠ 31 := fun e => h (BitVec.eq_of_toNat_eq (by simpa using e))
    simp [hn]

/-- A register after a write: the one written holds the value, unless it is register 31. -/
theorem State.reg_setReg : (s.setReg r v).reg q = if q = r ∧ q ≠ 31#5 then v else s.reg q := by
  unfold State.setReg State.reg
  by_cases hr : r = 31#5
  · subst hr
    by_cases hq : q = 31#5 <;> simp [hq]
  · by_cases hq : q = 31#5
    · simp [hq]
    · by_cases he : q = r
      · subst he; simp [hr]
      · have hn : r.toNat ≠ q.toNat := fun e => he (BitVec.eq_of_toNat_eq e.symm)
        simp [hr, hq, he, hn]

@[simp] theorem State.reg_setReg_self (h : r ≠ 31#5) : (s.setReg r v).reg r = v := by
  simp [State.reg_setReg, h]

@[simp] theorem State.reg_setReg_ne (h : q ≠ r) : (s.setReg r v).reg q = s.reg q := by
  simp [State.reg_setReg, h]

/-- The registers of a state determine what a register reads. -/
theorem State.reg_congr {s t : State} (h : t.regs = s.regs) : t.reg q = s.reg q := by
  simp only [State.reg, h]

/-! ### `setPc` and `advance` -/

@[simp] theorem State.setPc_cfg : (s.setPc v).cfg = s.cfg := rfl
@[simp] theorem State.setPc_regs : (s.setPc v).regs = s.regs := rfl
@[simp] theorem State.setPc_pc : (s.setPc v).pc = v := rfl
@[simp] theorem State.setPc_mem : (s.setPc v).mem = s.mem := rfl
@[simp] theorem State.setPc_out : (s.setPc v).out = s.out := rfl
@[simp] theorem State.setPc_status : (s.setPc v).status = s.status := rfl
@[simp] theorem State.setPc_reg : (s.setPc v).reg q = s.reg q := rfl
@[simp] theorem State.advance_cfg : s.advance.cfg = s.cfg := rfl
@[simp] theorem State.advance_regs : s.advance.regs = s.regs := rfl
@[simp] theorem State.advance_pc : s.advance.pc = s.pc + 4#64 := rfl
@[simp] theorem State.advance_mem : s.advance.mem = s.mem := rfl
@[simp] theorem State.advance_out : s.advance.out = s.out := rfl
@[simp] theorem State.advance_status : s.advance.status = s.status := rfl
@[simp] theorem State.advance_reg : s.advance.reg q = s.reg q := rfl
@[simp] theorem State.advance_npc : s.advance.npc = s.pc + 4#64 := rfl
@[simp] theorem State.advance_cur : s.advance.cur = s.pc := by simp [State.cur]

/-! ### `emit`, `raise`, `halt`, `placeAtPc` -/

@[simp] theorem State.emit_cfg : (s.emit b).cfg = s.cfg := rfl
@[simp] theorem State.emit_regs : (s.emit b).regs = s.regs := rfl
@[simp] theorem State.emit_pc : (s.emit b).pc = s.pc := rfl
@[simp] theorem State.emit_mem : (s.emit b).mem = s.mem := rfl
@[simp] theorem State.emit_out : (s.emit b).out = s.out ++ [b] := rfl
@[simp] theorem State.emit_status : (s.emit b).status = s.status := rfl
@[simp] theorem State.emit_reg : (s.emit b).reg q = s.reg q := rfl
@[simp] theorem State.raise_cfg : (s.raise info).cfg = s.cfg := rfl
@[simp] theorem State.raise_regs : (s.raise info).regs = s.regs := rfl
@[simp] theorem State.raise_pc : (s.raise info).pc = s.pc := rfl
@[simp] theorem State.raise_mem : (s.raise info).mem = s.mem := rfl
@[simp] theorem State.raise_out : (s.raise info).out = s.out := rfl
@[simp] theorem State.raise_status : (s.raise info).status = .faulted info := rfl
@[simp] theorem State.raise_reg : (s.raise info).reg q = s.reg q := rfl
@[simp] theorem State.halt_cfg : s.halt.cfg = s.cfg := rfl
@[simp] theorem State.halt_regs : s.halt.regs = s.regs := rfl
@[simp] theorem State.halt_pc : s.halt.pc = s.pc := rfl
@[simp] theorem State.halt_mem : s.halt.mem = s.mem := rfl
@[simp] theorem State.halt_out : s.halt.out = s.out := rfl
@[simp] theorem State.halt_status : s.halt.status = .halted := rfl
@[simp] theorem State.halt_reg : s.halt.reg q = s.reg q := rfl
@[simp] theorem State.placeAtPc_cfg : (s.placeAtPc v).cfg = s.cfg := rfl
@[simp] theorem State.placeAtPc_regs : (s.placeAtPc v).regs = s.regs := rfl
@[simp] theorem State.placeAtPc_pc : (s.placeAtPc v).pc = s.pc := rfl
@[simp] theorem State.placeAtPc_mem : (s.placeAtPc v).mem = s.mem.writeLE s.pc.toNat 4 v := rfl
@[simp] theorem State.placeAtPc_out : (s.placeAtPc v).out = s.out := rfl
@[simp] theorem State.placeAtPc_status : (s.placeAtPc v).status = s.status := rfl

end Sys2Proof.Machine
end

