-- ==== Sys2Proof/Laws/Operations.lean ====
section
/-! SUPPORT. What each shared operation, and the whole of `exec`, can do to a state. -/

namespace Sys2Proof.Machine

/-! ### Memory accesses -/

/-- `MemRead` answers exactly when the span fits, with the bytes as one number. -/
theorem State.memRead_eq_some (s : State) (a : Word) (n : Nat) (v : Word) :
    s.memRead a n = some v ↔ s.cfg.Fits a.toNat n ∧ v = BitVec.ofNat 64 (s.mem.readLE a.toNat n) := by
  unfold State.memRead
  split
  · rename_i h; simp [h, eq_comm]
  · rename_i h; simp [h]

/-- What `MemWrite` can do: append one byte at the output port, or write a span that fits. -/
theorem State.memWrite_cases (s t : State) (a : Word) (n : Nat) (v : Word) (h : s.memWrite a n v = some t) :
    (n = 1 ∧ a = outputAddr ∧ t = s.emit (v.setWidth 8)) ∨
    (¬ (n = 1 ∧ a = outputAddr) ∧ s.cfg.Fits a.toNat n ∧ t = { s with mem := s.mem.writeLE a.toNat n v }) := by
  unfold State.memWrite at h
  split at h
  · rename_i hp; exact .inl ⟨hp.1, hp.2, by simpa using h.symm⟩
  · rename_i hp
    split at h
    · rename_i hf; exact .inr ⟨hp, hf, by simpa using h.symm⟩
    · cases h

/-! ### The effect of an instruction -/

/-- Everything the instruction `i` can do, and which instructions can do it. -/
inductive Effect (i : Instr) (s : State) : Outcome → Prop
  | nothing : Effect i s (.next s)
  | register (h : i.opcode ∉ storeOpcodes) (r : Reg) (v : Word) : Effect i s (.next (s.setReg r v))
  | jump (h : i.opcode ∈ executedBranch) (t : Word) : Effect i s (.next (s.setPc t))
  | link (h : i.opcode ∈ executedBranch) (r : Reg) (t : Word) : Effect i s (.next ((s.setReg r s.npc).setPc t))
  | memory (h : i.opcode ∈ storeOpcodes) (n : Nat) (ra : Reg) (ea : Word)
      (hb : n = 1 → ∃ rb disp, i = .stb ra rb disp ∧ ea = s.effAddr rb disp)
      (t : State) (hw : s.memWrite ea n (s.reg ra) = some t) : Effect i s (.next t)
  | address (h : i.opcode ∈ loadOpcodes ++ storeOpcodes) (ea : Word) :
      Effect i s (.next (s.raise (.addressError s.cur ea)))
  | opcode : Effect i s (.next (s.raise (.unimplementedOpcode s.cur i.opcode (encode i))))

theorem operate_effect (i : Instr) (h : decide (i.opcode ∈ storeOpcodes) = false) (rc : Reg) (v : Word) (s : State) :
    Effect i s (operate rc v s) := .register (of_decide_eq_false h) rc v

theorem condMove_effect (i : Instr) (h : decide (i.opcode ∈ storeOpcodes) = false) (c : Bool) (b : Operand2)
    (rc : Reg) (s : State) : Effect i s (condMove c b rc s) := by
  unfold condMove
  cases c
  · exact .nothing
  · exact .register (of_decide_eq_false h) rc _

theorem branchIf_effect (i : Instr) (h : decide (i.opcode ∈ executedBranch) = true) (c : Bool)
    (disp : BitVec 21) (s : State) : Effect i s (branchIf c disp s) := by
  unfold branchIf
  cases c
  · exact .nothing
  · exact .jump (of_decide_eq_true h) _

theorem linkAndGo_effect (i : Instr) (h : decide (i.opcode ∈ executedBranch) = true) (ra : Reg) (t : Word)
    (s : State) : Effect i s (linkAndGo ra t s) := .link (of_decide_eq_true h) ra t

theorem unimplemented_effect (i : Instr) (s : State) : Effect i s (unimplemented i s) := .opcode

theorem prefetch_effect (i : Instr) (fa : Reg) (s : State) :
    Effect i s (if fa = 31#5 then .next s else unimplemented i s) := by
  split
  · exact .nothing
  · exact .opcode

theorem load_effect (i : Instr) (hl : decide (i.opcode ∈ loadOpcodes) = true)
    (h : decide (i.opcode ∈ storeOpcodes) = false) (n : Nat) (ext : Word → Word) (ra : Reg) (ea : Word)
    (s : State) : Effect i s (load n ext ra ea s) := by
  unfold load
  split
  · exact .nothing
  · split
    · exact .register (of_decide_eq_false h) ra _
    · exact .address (List.mem_append_left _ (of_decide_eq_true hl)) ea

theorem store_effect (i : Instr) (h : decide (i.opcode ∈ storeOpcodes) = true) (n : Nat) (ra : Reg) (ea : Word)
    (s : State) (hb : n = 1 → ∃ rb disp, i = .stb ra rb disp ∧ ea = s.effAddr rb disp) :
    Effect i s (store n ra ea s) := by
  unfold store
  split
  · rename_i t hw; exact .memory (of_decide_eq_true h) n ra ea hb t hw
  · exact .address (List.mem_append_right _ (of_decide_eq_true h)) ea

/-- The effect of every instruction is one of those of `Effect`; none answers with a fault or a refusal. -/
theorem exec_effect (i : Instr) (s : State) : Effect i s (exec i s) := by
  cases i with
  | lda => exact .register (of_decide_eq_false rfl) _ _
  | ldah => exact .register (of_decide_eq_false rfl) _ _
  | ldbu => exact load_effect _ rfl rfl _ _ _ _ s
  | ldqU => exact load_effect _ rfl rfl _ _ _ _ s
  | ldwu => exact load_effect _ rfl rfl _ _ _ _ s
  | stw => exact store_effect _ rfl _ _ _ s fun h => absurd h (by decide)
  | stb => exact store_effect _ rfl _ _ _ s fun _ => ⟨_, _, rfl, rfl⟩
  | stqU => exact store_effect _ rfl _ _ _ s fun h => absurd h (by decide)
  | ldf => exact unimplemented_effect _ s
  | ldg => exact unimplemented_effect _ s
  | lds => exact prefetch_effect _ _ s
  | ldt => exact prefetch_effect _ _ s
  | stf => exact unimplemented_effect _ s
  | stg => exact unimplemented_effect _ s
  | sts => exact unimplemented_effect _ s
  | stt => exact unimplemented_effect _ s
  | ldl => exact load_effect _ rfl rfl _ _ _ _ s
  | ldq => exact load_effect _ rfl rfl _ _ _ _ s
  | ldlL => exact unimplemented_effect _ s
  | ldqL => exact unimplemented_effect _ s
  | stl => exact store_effect _ rfl _ _ _ s fun h => absurd h (by decide)
  | stq => exact store_effect _ rfl _ _ _ s fun h => absurd h (by decide)
  | stlC => exact unimplemented_effect _ s
  | stqC => exact unimplemented_effect _ s
  | br => exact linkAndGo_effect _ rfl _ _ s
  | fbeq => exact unimplemented_effect _ s
  | fblt => exact unimplemented_effect _ s
  | fble => exact unimplemented_effect _ s
  | bsr => exact linkAndGo_effect _ rfl _ _ s
  | fbne => exact unimplemented_effect _ s
  | fbge => exact unimplemented_effect _ s
  | fbgt => exact unimplemented_effect _ s
  | blbc => exact branchIf_effect _ rfl _ _ s
  | beq => exact branchIf_effect _ rfl _ _ s
  | blt => exact branchIf_effect _ rfl _ _ s
  | ble => exact branchIf_effect _ rfl _ _ s
  | blbs => exact branchIf_effect _ rfl _ _ s
  | bne => exact branchIf_effect _ rfl _ _ s
  | bge => exact branchIf_effect _ rfl _ _ s
  | bgt => exact branchIf_effect _ rfl _ _ s
  | jmp => exact linkAndGo_effect _ rfl _ _ s
  | jsr => exact linkAndGo_effect _ rfl _ _ s
  | ret => exact linkAndGo_effect _ rfl _ _ s
  | jsrCoroutine => exact linkAndGo_effect _ rfl _ _ s
  | trapb => exact unimplemented_effect _ s
  | excb => exact unimplemented_effect _ s
  | mb => exact unimplemented_effect _ s
  | wmb => exact unimplemented_effect _ s
  | fetch => exact unimplemented_effect _ s
  | fetchM => exact unimplemented_effect _ s
  | rpcc => exact unimplemented_effect _ s
  | rc => exact unimplemented_effect _ s
  | ecb => exact unimplemented_effect _ s
  | rs => exact unimplemented_effect _ s
  | wh64 => exact unimplemented_effect _ s
  | wh64en => exact unimplemented_effect _ s
  | addl => exact operate_effect _ rfl _ _ s
  | s4addl => exact operate_effect _ rfl _ _ s
  | subl => exact operate_effect _ rfl _ _ s
  | s4subl => exact operate_effect _ rfl _ _ s
  | cmpbge => exact operate_effect _ rfl _ _ s
  | s8addl => exact operate_effect _ rfl _ _ s
  | s8subl => exact operate_effect _ rfl _ _ s
  | cmpult => exact operate_effect _ rfl _ _ s
  | addq => exact operate_effect _ rfl _ _ s
  | s4addq => exact operate_effect _ rfl _ _ s
  | subq => exact operate_effect _ rfl _ _ s
  | s4subq => exact operate_effect _ rfl _ _ s
  | cmpeq => exact operate_effect _ rfl _ _ s
  | s8addq => exact operate_effect _ rfl _ _ s
  | s8subq => exact operate_effect _ rfl _ _ s
  | cmpule => exact operate_effect _ rfl _ _ s
  | addlV => exact unimplemented_effect _ s
  | sublV => exact unimplemented_effect _ s
  | cmplt => exact operate_effect _ rfl _ _ s
  | addqV => exact unimplemented_effect _ s
  | subqV => exact unimplemented_effect _ s
  | cmple => exact operate_effect _ rfl _ _ s
  | and => exact operate_effect _ rfl _ _ s
  | bic => exact operate_effect _ rfl _ _ s
  | cmovlbs => exact condMove_effect _ rfl _ _ _ s
  | cmovlbc => exact condMove_effect _ rfl _ _ _ s
  | bis => exact operate_effect _ rfl _ _ s
  | cmoveq => exact condMove_effect _ rfl _ _ _ s
  | cmovne => exact condMove_effect _ rfl _ _ _ s
  | ornot => exact operate_effect _ rfl _ _ s
  | xor => exact operate_effect _ rfl _ _ s
  | cmovlt => exact condMove_effect _ rfl _ _ _ s
  | cmovge => exact condMove_effect _ rfl _ _ _ s
  | eqv => exact operate_effect _ rfl _ _ s
  | amask => exact unimplemented_effect _ s
  | cmovle => exact condMove_effect _ rfl _ _ _ s
  | cmovgt => exact condMove_effect _ rfl _ _ _ s
  | implver => exact unimplemented_effect _ s
  | mskbl => exact operate_effect _ rfl _ _ s
  | extbl => exact operate_effect _ rfl _ _ s
  | insbl => exact operate_effect _ rfl _ _ s
  | mskwl => exact operate_effect _ rfl _ _ s
  | extwl => exact operate_effect _ rfl _ _ s
  | inswl => exact operate_effect _ rfl _ _ s
  | mskll => exact operate_effect _ rfl _ _ s
  | extll => exact operate_effect _ rfl _ _ s
  | insll => exact operate_effect _ rfl _ _ s
  | zap => exact operate_effect _ rfl _ _ s
  | zapnot => exact operate_effect _ rfl _ _ s
  | mskql => exact operate_effect _ rfl _ _ s
  | srl => exact operate_effect _ rfl _ _ s
  | extql => exact operate_effect _ rfl _ _ s
  | sll => exact operate_effect _ rfl _ _ s
  | insql => exact operate_effect _ rfl _ _ s
  | sra => exact operate_effect _ rfl _ _ s
  | mskwh => exact operate_effect _ rfl _ _ s
  | inswh => exact operate_effect _ rfl _ _ s
  | extwh => exact operate_effect _ rfl _ _ s
  | msklh => exact operate_effect _ rfl _ _ s
  | inslh => exact operate_effect _ rfl _ _ s
  | extlh => exact operate_effect _ rfl _ _ s
  | mskqh => exact operate_effect _ rfl _ _ s
  | insqh => exact operate_effect _ rfl _ _ s
  | extqh => exact operate_effect _ rfl _ _ s
  | mull => exact operate_effect _ rfl _ _ s
  | mulq => exact operate_effect _ rfl _ _ s
  | umulh => exact operate_effect _ rfl _ _ s
  | mullV => exact unimplemented_effect _ s
  | mulqV => exact unimplemented_effect _ s
  | sextb => exact operate_effect _ rfl _ _ s
  | sextw => exact operate_effect _ rfl _ _ s
  | ctpop => exact unimplemented_effect _ s
  | perr => exact unimplemented_effect _ s
  | ctlz => exact unimplemented_effect _ s
  | cttz => exact unimplemented_effect _ s
  | unpkbw => exact unimplemented_effect _ s
  | unpkbl => exact unimplemented_effect _ s
  | pkwb => exact unimplemented_effect _ s
  | pklb => exact unimplemented_effect _ s
  | minsb8 => exact unimplemented_effect _ s
  | minsw4 => exact unimplemented_effect _ s
  | minub8 => exact unimplemented_effect _ s
  | minuw4 => exact unimplemented_effect _ s
  | maxub8 => exact unimplemented_effect _ s
  | maxuw4 => exact unimplemented_effect _ s
  | maxsb8 => exact unimplemented_effect _ s
  | maxsw4 => exact unimplemented_effect _ s
  | ftoit => exact unimplemented_effect _ s
  | ftois => exact unimplemented_effect _ s
  | callPal => exact unimplemented_effect _ s
  | opc01 => exact unimplemented_effect _ s
  | opc02 => exact unimplemented_effect _ s
  | opc03 => exact unimplemented_effect _ s
  | opc04 => exact unimplemented_effect _ s
  | opc05 => exact unimplemented_effect _ s
  | opc06 => exact unimplemented_effect _ s
  | opc07 => exact unimplemented_effect _ s
  | pal19 => exact unimplemented_effect _ s
  | pal1b => exact unimplemented_effect _ s
  | pal1d => exact unimplemented_effect _ s
  | pal1e => exact unimplemented_effect _ s
  | pal1f => exact unimplemented_effect _ s
  | itofs => exact unimplemented_effect _ s
  | itoff => exact unimplemented_effect _ s
  | itoft => exact unimplemented_effect _ s
  | sqrtf => exact unimplemented_effect _ s
  | sqrts => exact unimplemented_effect _ s
  | sqrtg => exact unimplemented_effect _ s
  | sqrtt => exact unimplemented_effect _ s
  | addf => exact unimplemented_effect _ s
  | subf => exact unimplemented_effect _ s
  | mulf => exact unimplemented_effect _ s
  | divf => exact unimplemented_effect _ s
  | cvtdg => exact unimplemented_effect _ s
  | addg => exact unimplemented_effect _ s
  | subg => exact unimplemented_effect _ s
  | mulg => exact unimplemented_effect _ s
  | divg => exact unimplemented_effect _ s
  | cmpgeq => exact unimplemented_effect _ s
  | cmpglt => exact unimplemented_effect _ s
  | cmpgle => exact unimplemented_effect _ s
  | cvtgf => exact unimplemented_effect _ s
  | cvtgd => exact unimplemented_effect _ s
  | cvtgq => exact unimplemented_effect _ s
  | cvtqf => exact unimplemented_effect _ s
  | cvtqg => exact unimplemented_effect _ s
  | adds => exact unimplemented_effect _ s
  | subs => exact unimplemented_effect _ s
  | muls => exact unimplemented_effect _ s
  | divs => exact unimplemented_effect _ s
  | addt => exact unimplemented_effect _ s
  | subt => exact unimplemented_effect _ s
  | mult => exact unimplemented_effect _ s
  | divt => exact unimplemented_effect _ s
  | cmptun => exact unimplemented_effect _ s
  | cmpteq => exact unimplemented_effect _ s
  | cmptlt => exact unimplemented_effect _ s
  | cmptle => exact unimplemented_effect _ s
  | cvtts => exact unimplemented_effect _ s
  | cvttq => exact unimplemented_effect _ s
  | cvtqs => exact unimplemented_effect _ s
  | cvtqt => exact unimplemented_effect _ s
  | cvtst => exact unimplemented_effect _ s
  | cvtlq => exact unimplemented_effect _ s
  | cpys => exact unimplemented_effect _ s
  | cpysn => exact unimplemented_effect _ s
  | cpyse => exact unimplemented_effect _ s
  | mtFpcr => exact unimplemented_effect _ s
  | mfFpcr => exact unimplemented_effect _ s
  | fcmoveq => exact unimplemented_effect _ s
  | fcmovne => exact unimplemented_effect _ s
  | fcmovlt => exact unimplemented_effect _ s
  | fcmovge => exact unimplemented_effect _ s
  | fcmovle => exact unimplemented_effect _ s
  | fcmovgt => exact unimplemented_effect _ s
  | cvtql => exact unimplemented_effect _ s
  | unknown => exact unimplemented_effect _ s

/-- An instruction always has a next state. -/
theorem exec_next (i : Instr) (s : State) : ∃ t, exec i s = .next t := by
  have h := exec_effect i s
  cases he : exec i s with
  | next t => exact ⟨t, rfl⟩
  | fault f => rw [he] at h; cases h
  | refused r => rw [he] at h; cases h

/-! ### The step -/

/-- The four ways a step begins: the halt test, the pc check, the fetch, the instruction. -/
theorem State.begin_cases (s : State) :
    (s.pc = s.cfg.sentinel ∧ s.begin = .halt) ∨
    (s.pc ≠ s.cfg.sentinel ∧ (s.pc.toNat % 4 ≠ 0 ∨ ¬ s.cfg.InText s.pc) ∧
      s.begin = .fault (.invalidProgramCounter s.pc)) ∨
    (s.pc ≠ s.cfg.sentinel ∧ ¬ (s.pc.toNat % 4 ≠ 0 ∨ ¬ s.cfg.InText s.pc) ∧ ¬ s.cfg.Fits s.pc.toNat 4 ∧
      s.begin = .fault (.addressError s.pc s.pc)) ∨
    (s.pc ≠ s.cfg.sentinel ∧ ¬ (s.pc.toNat % 4 ≠ 0 ∨ ¬ s.cfg.InText s.pc) ∧ s.cfg.Fits s.pc.toNat 4 ∧
      s.begin = .run (decode (BitVec.ofNat 32 (s.mem.readLE s.pc.toNat 4)))) := by
  unfold State.begin State.memRead
  by_cases h1 : s.pc = s.cfg.sentinel
  · exact .inl ⟨h1, if_pos h1⟩
  · rw [if_neg h1]
    by_cases h2 : s.pc.toNat % 4 ≠ 0 ∨ ¬ s.cfg.InText s.pc
    · exact .inr (.inl ⟨h1, h2, if_pos h2⟩)
    · rw [if_neg h2]
      by_cases h3 : s.cfg.Fits s.pc.toNat 4
      · refine .inr (.inr (.inr ⟨h1, h2, h3, ?_⟩))
        simp only [if_pos h3]
        congr 2
        apply BitVec.eq_of_toNat_eq
        simp only [BitVec.toNat_setWidth, BitVec.toNat_ofNat]
        exact Nat.mod_mod_of_dvd _ ⟨2 ^ 32, by norm_num⟩
      · refine .inr (.inr (.inl ⟨h1, h2, h3, ?_⟩))
        simp only [if_neg h3]

/-- The step of a running state under a valid configuration. -/
theorem step_running (s : State) (hv : s.cfg.Valid) (hr : s.status = .running) :
    step s = match s.begin with
      | .halt => .next s.halt
      | .fault info => .next (s.raise info)
      | .run i => exec i s.advance := by
  cases hb : s.begin <;> simp only [step, if_pos hv, hr, hb]

/-- Every way a step has a next state. -/
theorem step_cases (s t : State) (h : step s = .next t) :
    s.cfg.Valid ∧ s.status = .running ∧
      ((s.begin = .halt ∧ t = s.halt) ∨ (∃ info, s.begin = .fault info ∧ t = s.raise info) ∨
        ∃ i, s.begin = .run i ∧ exec i s.advance = .next t) := by
  unfold step at h
  split at h
  · rename_i hv
    cases hs : s.status with
    | halted => simp [hs] at h
    | faulted info => simp [hs] at h
    | running =>
      refine ⟨hv, rfl, ?_⟩
      simp only [hs] at h
      cases hb : s.begin with
      | halt => simp only [hb] at h; exact .inl ⟨rfl, by cases h; rfl⟩
      | fault info => simp only [hb] at h; exact .inr (.inl ⟨info, rfl, by cases h; rfl⟩)
      | run i => simp only [hb] at h; exact .inr (.inr ⟨i, rfl, h⟩)
  · cases h

end Sys2Proof.Machine
end

