-- ==== Sys2Proof/Laws/PerInstr.lean ====
section
/-! SUPPORT. Families of statements made per instruction. -/

namespace Sys2Proof.Laws

/-- The primary opcode of an instruction (R92 and R103 to R117 of spec/30_encoding.md). -/
def EncodePrimary.primary : Instr → BitVec 6
  | .lda _ _ _ => 0x08#6
  | .ldah _ _ _ => 0x09#6
  | .ldbu _ _ _ => 0x0A#6
  | .ldqU _ _ _ => 0x0B#6
  | .ldwu _ _ _ => 0x0C#6
  | .stw _ _ _ => 0x0D#6
  | .stb _ _ _ => 0x0E#6
  | .stqU _ _ _ => 0x0F#6
  | .ldf _ _ _ => 0x20#6
  | .ldg _ _ _ => 0x21#6
  | .lds _ _ _ => 0x22#6
  | .ldt _ _ _ => 0x23#6
  | .stf _ _ _ => 0x24#6
  | .stg _ _ _ => 0x25#6
  | .sts _ _ _ => 0x26#6
  | .stt _ _ _ => 0x27#6
  | .ldl _ _ _ => 0x28#6
  | .ldq _ _ _ => 0x29#6
  | .ldlL _ _ _ => 0x2A#6
  | .ldqL _ _ _ => 0x2B#6
  | .stl _ _ _ => 0x2C#6
  | .stq _ _ _ => 0x2D#6
  | .stlC _ _ _ => 0x2E#6
  | .stqC _ _ _ => 0x2F#6
  | .br _ _ => 0x30#6
  | .fbeq _ _ => 0x31#6
  | .fblt _ _ => 0x32#6
  | .fble _ _ => 0x33#6
  | .bsr _ _ => 0x34#6
  | .fbne _ _ => 0x35#6
  | .fbge _ _ => 0x36#6
  | .fbgt _ _ => 0x37#6
  | .blbc _ _ => 0x38#6
  | .beq _ _ => 0x39#6
  | .blt _ _ => 0x3A#6
  | .ble _ _ => 0x3B#6
  | .blbs _ _ => 0x3C#6
  | .bne _ _ => 0x3D#6
  | .bge _ _ => 0x3E#6
  | .bgt _ _ => 0x3F#6
  | .jmp _ _ _ => 0x1A#6
  | .jsr _ _ _ => 0x1A#6
  | .ret _ _ _ => 0x1A#6
  | .jsrCoroutine _ _ _ => 0x1A#6
  | .trapb _ _ => 0x18#6
  | .excb _ _ => 0x18#6
  | .mb _ _ => 0x18#6
  | .wmb _ _ => 0x18#6
  | .fetch _ _ => 0x18#6
  | .fetchM _ _ => 0x18#6
  | .rpcc _ _ => 0x18#6
  | .rc _ _ => 0x18#6
  | .ecb _ _ => 0x18#6
  | .rs _ _ => 0x18#6
  | .wh64 _ _ => 0x18#6
  | .wh64en _ _ => 0x18#6
  | .addl _ _ _ => 0x10#6
  | .s4addl _ _ _ => 0x10#6
  | .subl _ _ _ => 0x10#6
  | .s4subl _ _ _ => 0x10#6
  | .cmpbge _ _ _ => 0x10#6
  | .s8addl _ _ _ => 0x10#6
  | .s8subl _ _ _ => 0x10#6
  | .cmpult _ _ _ => 0x10#6
  | .addq _ _ _ => 0x10#6
  | .s4addq _ _ _ => 0x10#6
  | .subq _ _ _ => 0x10#6
  | .s4subq _ _ _ => 0x10#6
  | .cmpeq _ _ _ => 0x10#6
  | .s8addq _ _ _ => 0x10#6
  | .s8subq _ _ _ => 0x10#6
  | .cmpule _ _ _ => 0x10#6
  | .addlV _ _ _ => 0x10#6
  | .sublV _ _ _ => 0x10#6
  | .cmplt _ _ _ => 0x10#6
  | .addqV _ _ _ => 0x10#6
  | .subqV _ _ _ => 0x10#6
  | .cmple _ _ _ => 0x10#6
  | .and _ _ _ => 0x11#6
  | .bic _ _ _ => 0x11#6
  | .cmovlbs _ _ _ => 0x11#6
  | .cmovlbc _ _ _ => 0x11#6
  | .bis _ _ _ => 0x11#6
  | .cmoveq _ _ _ => 0x11#6
  | .cmovne _ _ _ => 0x11#6
  | .ornot _ _ _ => 0x11#6
  | .xor _ _ _ => 0x11#6
  | .cmovlt _ _ _ => 0x11#6
  | .cmovge _ _ _ => 0x11#6
  | .eqv _ _ _ => 0x11#6
  | .amask _ _ _ => 0x11#6
  | .cmovle _ _ _ => 0x11#6
  | .cmovgt _ _ _ => 0x11#6
  | .implver _ _ _ => 0x11#6
  | .mskbl _ _ _ => 0x12#6
  | .extbl _ _ _ => 0x12#6
  | .insbl _ _ _ => 0x12#6
  | .mskwl _ _ _ => 0x12#6
  | .extwl _ _ _ => 0x12#6
  | .inswl _ _ _ => 0x12#6
  | .mskll _ _ _ => 0x12#6
  | .extll _ _ _ => 0x12#6
  | .insll _ _ _ => 0x12#6
  | .zap _ _ _ => 0x12#6
  | .zapnot _ _ _ => 0x12#6
  | .mskql _ _ _ => 0x12#6
  | .srl _ _ _ => 0x12#6
  | .extql _ _ _ => 0x12#6
  | .sll _ _ _ => 0x12#6
  | .insql _ _ _ => 0x12#6
  | .sra _ _ _ => 0x12#6
  | .mskwh _ _ _ => 0x12#6
  | .inswh _ _ _ => 0x12#6
  | .extwh _ _ _ => 0x12#6
  | .msklh _ _ _ => 0x12#6
  | .inslh _ _ _ => 0x12#6
  | .extlh _ _ _ => 0x12#6
  | .mskqh _ _ _ => 0x12#6
  | .insqh _ _ _ => 0x12#6
  | .extqh _ _ _ => 0x12#6
  | .mull _ _ _ => 0x13#6
  | .mulq _ _ _ => 0x13#6
  | .umulh _ _ _ => 0x13#6
  | .mullV _ _ _ => 0x13#6
  | .mulqV _ _ _ => 0x13#6
  | .sextb _ _ _ => 0x1C#6
  | .sextw _ _ _ => 0x1C#6
  | .ctpop _ _ _ => 0x1C#6
  | .perr _ _ _ => 0x1C#6
  | .ctlz _ _ _ => 0x1C#6
  | .cttz _ _ _ => 0x1C#6
  | .unpkbw _ _ _ => 0x1C#6
  | .unpkbl _ _ _ => 0x1C#6
  | .pkwb _ _ _ => 0x1C#6
  | .pklb _ _ _ => 0x1C#6
  | .minsb8 _ _ _ => 0x1C#6
  | .minsw4 _ _ _ => 0x1C#6
  | .minub8 _ _ _ => 0x1C#6
  | .minuw4 _ _ _ => 0x1C#6
  | .maxub8 _ _ _ => 0x1C#6
  | .maxuw4 _ _ _ => 0x1C#6
  | .maxsb8 _ _ _ => 0x1C#6
  | .maxsw4 _ _ _ => 0x1C#6
  | .ftoit _ _ _ => 0x1C#6
  | .ftois _ _ _ => 0x1C#6
  | .callPal _ => 0x00#6
  | .opc01 _ => 0x01#6
  | .opc02 _ => 0x02#6
  | .opc03 _ => 0x03#6
  | .opc04 _ => 0x04#6
  | .opc05 _ => 0x05#6
  | .opc06 _ => 0x06#6
  | .opc07 _ => 0x07#6
  | .pal19 _ => 0x19#6
  | .pal1b _ => 0x1B#6
  | .pal1d _ => 0x1D#6
  | .pal1e _ => 0x1E#6
  | .pal1f _ => 0x1F#6
  | .itofs _ _ _ => 0x14#6
  | .itoff _ _ _ => 0x14#6
  | .itoft _ _ _ => 0x14#6
  | .sqrtf _ _ _ _ => 0x14#6
  | .sqrts _ _ _ _ => 0x14#6
  | .sqrtg _ _ _ _ => 0x14#6
  | .sqrtt _ _ _ _ => 0x14#6
  | .addf _ _ _ _ => 0x15#6
  | .subf _ _ _ _ => 0x15#6
  | .mulf _ _ _ _ => 0x15#6
  | .divf _ _ _ _ => 0x15#6
  | .cvtdg _ _ _ _ => 0x15#6
  | .addg _ _ _ _ => 0x15#6
  | .subg _ _ _ _ => 0x15#6
  | .mulg _ _ _ _ => 0x15#6
  | .divg _ _ _ _ => 0x15#6
  | .cmpgeq _ _ _ _ => 0x15#6
  | .cmpglt _ _ _ _ => 0x15#6
  | .cmpgle _ _ _ _ => 0x15#6
  | .cvtgf _ _ _ _ => 0x15#6
  | .cvtgd _ _ _ _ => 0x15#6
  | .cvtgq _ _ _ _ => 0x15#6
  | .cvtqf _ _ _ _ => 0x15#6
  | .cvtqg _ _ _ _ => 0x15#6
  | .adds _ _ _ _ => 0x16#6
  | .subs _ _ _ _ => 0x16#6
  | .muls _ _ _ _ => 0x16#6
  | .divs _ _ _ _ => 0x16#6
  | .addt _ _ _ _ => 0x16#6
  | .subt _ _ _ _ => 0x16#6
  | .mult _ _ _ _ => 0x16#6
  | .divt _ _ _ _ => 0x16#6
  | .cmptun _ _ _ _ => 0x16#6
  | .cmpteq _ _ _ _ => 0x16#6
  | .cmptlt _ _ _ _ => 0x16#6
  | .cmptle _ _ _ _ => 0x16#6
  | .cvtts _ _ _ _ => 0x16#6
  | .cvttq _ _ _ _ => 0x16#6
  | .cvtqs _ _ _ _ => 0x16#6
  | .cvtqt _ _ _ _ => 0x16#6
  | .cvtst _ _ _ _ => 0x16#6
  | .cvtlq _ _ _ => 0x17#6
  | .cpys _ _ _ => 0x17#6
  | .cpysn _ _ _ => 0x17#6
  | .cpyse _ _ _ => 0x17#6
  | .mtFpcr _ _ _ => 0x17#6
  | .mfFpcr _ _ _ => 0x17#6
  | .fcmoveq _ _ _ => 0x17#6
  | .fcmovne _ _ _ => 0x17#6
  | .fcmovlt _ _ _ => 0x17#6
  | .fcmovge _ _ _ => 0x17#6
  | .fcmovle _ _ _ => 0x17#6
  | .fcmovgt _ _ _ => 0x17#6
  | .cvtql _ _ _ _ => 0x17#6
  | .unknown w => opcField w

/-- The encoded word carries the primary opcode of its instruction. -/
def EncodePrimary.Statement (i : Instr) : Prop := opcField (encode i) = EncodePrimary.primary i

theorem EncodePrimary.lda (ra rb : Reg) (disp : BitVec 16) : EncodePrimary.Statement (.lda ra rb disp) :=
  opcField_memoryWord _ _ _ _
theorem EncodePrimary.ldah (ra rb : Reg) (disp : BitVec 16) : EncodePrimary.Statement (.ldah ra rb disp) :=
  opcField_memoryWord _ _ _ _
theorem EncodePrimary.ldbu (ra rb : Reg) (disp : BitVec 16) : EncodePrimary.Statement (.ldbu ra rb disp) :=
  opcField_memoryWord _ _ _ _
theorem EncodePrimary.ldqU (ra rb : Reg) (disp : BitVec 16) : EncodePrimary.Statement (.ldqU ra rb disp) :=
  opcField_memoryWord _ _ _ _
theorem EncodePrimary.ldwu (ra rb : Reg) (disp : BitVec 16) : EncodePrimary.Statement (.ldwu ra rb disp) :=
  opcField_memoryWord _ _ _ _
theorem EncodePrimary.stw (ra rb : Reg) (disp : BitVec 16) : EncodePrimary.Statement (.stw ra rb disp) :=
  opcField_memoryWord _ _ _ _
theorem EncodePrimary.stb (ra rb : Reg) (disp : BitVec 16) : EncodePrimary.Statement (.stb ra rb disp) :=
  opcField_memoryWord _ _ _ _
theorem EncodePrimary.stqU (ra rb : Reg) (disp : BitVec 16) : EncodePrimary.Statement (.stqU ra rb disp) :=
  opcField_memoryWord _ _ _ _
theorem EncodePrimary.ldf (fa rb : Reg) (disp : BitVec 16) : EncodePrimary.Statement (.ldf fa rb disp) :=
  opcField_memoryWord _ _ _ _
theorem EncodePrimary.ldg (fa rb : Reg) (disp : BitVec 16) : EncodePrimary.Statement (.ldg fa rb disp) :=
  opcField_memoryWord _ _ _ _
theorem EncodePrimary.lds (fa rb : Reg) (disp : BitVec 16) : EncodePrimary.Statement (.lds fa rb disp) :=
  opcField_memoryWord _ _ _ _
theorem EncodePrimary.ldt (fa rb : Reg) (disp : BitVec 16) : EncodePrimary.Statement (.ldt fa rb disp) :=
  opcField_memoryWord _ _ _ _
theorem EncodePrimary.stf (fa rb : Reg) (disp : BitVec 16) : EncodePrimary.Statement (.stf fa rb disp) :=
  opcField_memoryWord _ _ _ _
theorem EncodePrimary.stg (fa rb : Reg) (disp : BitVec 16) : EncodePrimary.Statement (.stg fa rb disp) :=
  opcField_memoryWord _ _ _ _
theorem EncodePrimary.sts (fa rb : Reg) (disp : BitVec 16) : EncodePrimary.Statement (.sts fa rb disp) :=
  opcField_memoryWord _ _ _ _
theorem EncodePrimary.stt (fa rb : Reg) (disp : BitVec 16) : EncodePrimary.Statement (.stt fa rb disp) :=
  opcField_memoryWord _ _ _ _
theorem EncodePrimary.ldl (ra rb : Reg) (disp : BitVec 16) : EncodePrimary.Statement (.ldl ra rb disp) :=
  opcField_memoryWord _ _ _ _
theorem EncodePrimary.ldq (ra rb : Reg) (disp : BitVec 16) : EncodePrimary.Statement (.ldq ra rb disp) :=
  opcField_memoryWord _ _ _ _
theorem EncodePrimary.ldlL (ra rb : Reg) (disp : BitVec 16) : EncodePrimary.Statement (.ldlL ra rb disp) :=
  opcField_memoryWord _ _ _ _
theorem EncodePrimary.ldqL (ra rb : Reg) (disp : BitVec 16) : EncodePrimary.Statement (.ldqL ra rb disp) :=
  opcField_memoryWord _ _ _ _
theorem EncodePrimary.stl (ra rb : Reg) (disp : BitVec 16) : EncodePrimary.Statement (.stl ra rb disp) :=
  opcField_memoryWord _ _ _ _
theorem EncodePrimary.stq (ra rb : Reg) (disp : BitVec 16) : EncodePrimary.Statement (.stq ra rb disp) :=
  opcField_memoryWord _ _ _ _
theorem EncodePrimary.stlC (ra rb : Reg) (disp : BitVec 16) : EncodePrimary.Statement (.stlC ra rb disp) :=
  opcField_memoryWord _ _ _ _
theorem EncodePrimary.stqC (ra rb : Reg) (disp : BitVec 16) : EncodePrimary.Statement (.stqC ra rb disp) :=
  opcField_memoryWord _ _ _ _
theorem EncodePrimary.br (ra : Reg) (disp : BitVec 21) : EncodePrimary.Statement (.br ra disp) :=
  opcField_branchWord _ _ _
theorem EncodePrimary.fbeq (fa : Reg) (disp : BitVec 21) : EncodePrimary.Statement (.fbeq fa disp) :=
  opcField_branchWord _ _ _
theorem EncodePrimary.fblt (fa : Reg) (disp : BitVec 21) : EncodePrimary.Statement (.fblt fa disp) :=
  opcField_branchWord _ _ _
theorem EncodePrimary.fble (fa : Reg) (disp : BitVec 21) : EncodePrimary.Statement (.fble fa disp) :=
  opcField_branchWord _ _ _
theorem EncodePrimary.bsr (ra : Reg) (disp : BitVec 21) : EncodePrimary.Statement (.bsr ra disp) :=
  opcField_branchWord _ _ _
theorem EncodePrimary.fbne (fa : Reg) (disp : BitVec 21) : EncodePrimary.Statement (.fbne fa disp) :=
  opcField_branchWord _ _ _
theorem EncodePrimary.fbge (fa : Reg) (disp : BitVec 21) : EncodePrimary.Statement (.fbge fa disp) :=
  opcField_branchWord _ _ _
theorem EncodePrimary.fbgt (fa : Reg) (disp : BitVec 21) : EncodePrimary.Statement (.fbgt fa disp) :=
  opcField_branchWord _ _ _
theorem EncodePrimary.blbc (ra : Reg) (disp : BitVec 21) : EncodePrimary.Statement (.blbc ra disp) :=
  opcField_branchWord _ _ _
theorem EncodePrimary.beq (ra : Reg) (disp : BitVec 21) : EncodePrimary.Statement (.beq ra disp) :=
  opcField_branchWord _ _ _
theorem EncodePrimary.blt (ra : Reg) (disp : BitVec 21) : EncodePrimary.Statement (.blt ra disp) :=
  opcField_branchWord _ _ _
theorem EncodePrimary.ble (ra : Reg) (disp : BitVec 21) : EncodePrimary.Statement (.ble ra disp) :=
  opcField_branchWord _ _ _
theorem EncodePrimary.blbs (ra : Reg) (disp : BitVec 21) : EncodePrimary.Statement (.blbs ra disp) :=
  opcField_branchWord _ _ _
theorem EncodePrimary.bne (ra : Reg) (disp : BitVec 21) : EncodePrimary.Statement (.bne ra disp) :=
  opcField_branchWord _ _ _
theorem EncodePrimary.bge (ra : Reg) (disp : BitVec 21) : EncodePrimary.Statement (.bge ra disp) :=
  opcField_branchWord _ _ _
theorem EncodePrimary.bgt (ra : Reg) (disp : BitVec 21) : EncodePrimary.Statement (.bgt ra disp) :=
  opcField_branchWord _ _ _
theorem EncodePrimary.jmp (ra rb : Reg) (jdisp : BitVec 14) : EncodePrimary.Statement (.jmp ra rb jdisp) :=
  opcField_jumpWord _ _ _ _
theorem EncodePrimary.jsr (ra rb : Reg) (jdisp : BitVec 14) : EncodePrimary.Statement (.jsr ra rb jdisp) :=
  opcField_jumpWord _ _ _ _
theorem EncodePrimary.ret (ra rb : Reg) (jdisp : BitVec 14) : EncodePrimary.Statement (.ret ra rb jdisp) :=
  opcField_jumpWord _ _ _ _
theorem EncodePrimary.jsrCoroutine (ra rb : Reg) (jdisp : BitVec 14) : EncodePrimary.Statement (.jsrCoroutine ra rb jdisp) :=
  opcField_jumpWord _ _ _ _
theorem EncodePrimary.trapb (ra rb : Reg) : EncodePrimary.Statement (.trapb ra rb) :=
  opcField_computeWord _ _ _
theorem EncodePrimary.excb (ra rb : Reg) : EncodePrimary.Statement (.excb ra rb) :=
  opcField_computeWord _ _ _
theorem EncodePrimary.mb (ra rb : Reg) : EncodePrimary.Statement (.mb ra rb) :=
  opcField_computeWord _ _ _
theorem EncodePrimary.wmb (ra rb : Reg) : EncodePrimary.Statement (.wmb ra rb) :=
  opcField_computeWord _ _ _
theorem EncodePrimary.fetch (ra rb : Reg) : EncodePrimary.Statement (.fetch ra rb) :=
  opcField_computeWord _ _ _
theorem EncodePrimary.fetchM (ra rb : Reg) : EncodePrimary.Statement (.fetchM ra rb) :=
  opcField_computeWord _ _ _
theorem EncodePrimary.rpcc (ra rb : Reg) : EncodePrimary.Statement (.rpcc ra rb) :=
  opcField_computeWord _ _ _
theorem EncodePrimary.rc (ra rb : Reg) : EncodePrimary.Statement (.rc ra rb) :=
  opcField_computeWord _ _ _
theorem EncodePrimary.ecb (ra rb : Reg) : EncodePrimary.Statement (.ecb ra rb) :=
  opcField_computeWord _ _ _
theorem EncodePrimary.rs (ra rb : Reg) : EncodePrimary.Statement (.rs ra rb) :=
  opcField_computeWord _ _ _
theorem EncodePrimary.wh64 (ra rb : Reg) : EncodePrimary.Statement (.wh64 ra rb) :=
  opcField_computeWord _ _ _
theorem EncodePrimary.wh64en (ra rb : Reg) : EncodePrimary.Statement (.wh64en ra rb) :=
  opcField_computeWord _ _ _
theorem EncodePrimary.addl (ra : Reg) (b : Operand2) (rc : Reg) : EncodePrimary.Statement (.addl ra b rc) :=
  opcField_operateWord _ _ _ _ _
theorem EncodePrimary.s4addl (ra : Reg) (b : Operand2) (rc : Reg) : EncodePrimary.Statement (.s4addl ra b rc) :=
  opcField_operateWord _ _ _ _ _
theorem EncodePrimary.subl (ra : Reg) (b : Operand2) (rc : Reg) : EncodePrimary.Statement (.subl ra b rc) :=
  opcField_operateWord _ _ _ _ _
theorem EncodePrimary.s4subl (ra : Reg) (b : Operand2) (rc : Reg) : EncodePrimary.Statement (.s4subl ra b rc) :=
  opcField_operateWord _ _ _ _ _
theorem EncodePrimary.cmpbge (ra : Reg) (b : Operand2) (rc : Reg) : EncodePrimary.Statement (.cmpbge ra b rc) :=
  opcField_operateWord _ _ _ _ _
theorem EncodePrimary.s8addl (ra : Reg) (b : Operand2) (rc : Reg) : EncodePrimary.Statement (.s8addl ra b rc) :=
  opcField_operateWord _ _ _ _ _
theorem EncodePrimary.s8subl (ra : Reg) (b : Operand2) (rc : Reg) : EncodePrimary.Statement (.s8subl ra b rc) :=
  opcField_operateWord _ _ _ _ _
theorem EncodePrimary.cmpult (ra : Reg) (b : Operand2) (rc : Reg) : EncodePrimary.Statement (.cmpult ra b rc) :=
  opcField_operateWord _ _ _ _ _
theorem EncodePrimary.addq (ra : Reg) (b : Operand2) (rc : Reg) : EncodePrimary.Statement (.addq ra b rc) :=
  opcField_operateWord _ _ _ _ _
theorem EncodePrimary.s4addq (ra : Reg) (b : Operand2) (rc : Reg) : EncodePrimary.Statement (.s4addq ra b rc) :=
  opcField_operateWord _ _ _ _ _
theorem EncodePrimary.subq (ra : Reg) (b : Operand2) (rc : Reg) : EncodePrimary.Statement (.subq ra b rc) :=
  opcField_operateWord _ _ _ _ _
theorem EncodePrimary.s4subq (ra : Reg) (b : Operand2) (rc : Reg) : EncodePrimary.Statement (.s4subq ra b rc) :=
  opcField_operateWord _ _ _ _ _
theorem EncodePrimary.cmpeq (ra : Reg) (b : Operand2) (rc : Reg) : EncodePrimary.Statement (.cmpeq ra b rc) :=
  opcField_operateWord _ _ _ _ _
theorem EncodePrimary.s8addq (ra : Reg) (b : Operand2) (rc : Reg) : EncodePrimary.Statement (.s8addq ra b rc) :=
  opcField_operateWord _ _ _ _ _
theorem EncodePrimary.s8subq (ra : Reg) (b : Operand2) (rc : Reg) : EncodePrimary.Statement (.s8subq ra b rc) :=
  opcField_operateWord _ _ _ _ _
theorem EncodePrimary.cmpule (ra : Reg) (b : Operand2) (rc : Reg) : EncodePrimary.Statement (.cmpule ra b rc) :=
  opcField_operateWord _ _ _ _ _
theorem EncodePrimary.addlV (ra : Reg) (b : Operand2) (rc : Reg) : EncodePrimary.Statement (.addlV ra b rc) :=
  opcField_operateWord _ _ _ _ _
theorem EncodePrimary.sublV (ra : Reg) (b : Operand2) (rc : Reg) : EncodePrimary.Statement (.sublV ra b rc) :=
  opcField_operateWord _ _ _ _ _
theorem EncodePrimary.cmplt (ra : Reg) (b : Operand2) (rc : Reg) : EncodePrimary.Statement (.cmplt ra b rc) :=
  opcField_operateWord _ _ _ _ _
theorem EncodePrimary.addqV (ra : Reg) (b : Operand2) (rc : Reg) : EncodePrimary.Statement (.addqV ra b rc) :=
  opcField_operateWord _ _ _ _ _
theorem EncodePrimary.subqV (ra : Reg) (b : Operand2) (rc : Reg) : EncodePrimary.Statement (.subqV ra b rc) :=
  opcField_operateWord _ _ _ _ _
theorem EncodePrimary.cmple (ra : Reg) (b : Operand2) (rc : Reg) : EncodePrimary.Statement (.cmple ra b rc) :=
  opcField_operateWord _ _ _ _ _
theorem EncodePrimary.and (ra : Reg) (b : Operand2) (rc : Reg) : EncodePrimary.Statement (.and ra b rc) :=
  opcField_operateWord _ _ _ _ _
theorem EncodePrimary.bic (ra : Reg) (b : Operand2) (rc : Reg) : EncodePrimary.Statement (.bic ra b rc) :=
  opcField_operateWord _ _ _ _ _
theorem EncodePrimary.cmovlbs (ra : Reg) (b : Operand2) (rc : Reg) : EncodePrimary.Statement (.cmovlbs ra b rc) :=
  opcField_operateWord _ _ _ _ _
theorem EncodePrimary.cmovlbc (ra : Reg) (b : Operand2) (rc : Reg) : EncodePrimary.Statement (.cmovlbc ra b rc) :=
  opcField_operateWord _ _ _ _ _
theorem EncodePrimary.bis (ra : Reg) (b : Operand2) (rc : Reg) : EncodePrimary.Statement (.bis ra b rc) :=
  opcField_operateWord _ _ _ _ _
theorem EncodePrimary.cmoveq (ra : Reg) (b : Operand2) (rc : Reg) : EncodePrimary.Statement (.cmoveq ra b rc) :=
  opcField_operateWord _ _ _ _ _
theorem EncodePrimary.cmovne (ra : Reg) (b : Operand2) (rc : Reg) : EncodePrimary.Statement (.cmovne ra b rc) :=
  opcField_operateWord _ _ _ _ _
theorem EncodePrimary.ornot (ra : Reg) (b : Operand2) (rc : Reg) : EncodePrimary.Statement (.ornot ra b rc) :=
  opcField_operateWord _ _ _ _ _
theorem EncodePrimary.xor (ra : Reg) (b : Operand2) (rc : Reg) : EncodePrimary.Statement (.xor ra b rc) :=
  opcField_operateWord _ _ _ _ _
theorem EncodePrimary.cmovlt (ra : Reg) (b : Operand2) (rc : Reg) : EncodePrimary.Statement (.cmovlt ra b rc) :=
  opcField_operateWord _ _ _ _ _
theorem EncodePrimary.cmovge (ra : Reg) (b : Operand2) (rc : Reg) : EncodePrimary.Statement (.cmovge ra b rc) :=
  opcField_operateWord _ _ _ _ _
theorem EncodePrimary.eqv (ra : Reg) (b : Operand2) (rc : Reg) : EncodePrimary.Statement (.eqv ra b rc) :=
  opcField_operateWord _ _ _ _ _
theorem EncodePrimary.amask (ra : Reg) (b : Operand2) (rc : Reg) : EncodePrimary.Statement (.amask ra b rc) :=
  opcField_operateWord _ _ _ _ _
theorem EncodePrimary.cmovle (ra : Reg) (b : Operand2) (rc : Reg) : EncodePrimary.Statement (.cmovle ra b rc) :=
  opcField_operateWord _ _ _ _ _
theorem EncodePrimary.cmovgt (ra : Reg) (b : Operand2) (rc : Reg) : EncodePrimary.Statement (.cmovgt ra b rc) :=
  opcField_operateWord _ _ _ _ _
theorem EncodePrimary.implver (ra : Reg) (b : Operand2) (rc : Reg) : EncodePrimary.Statement (.implver ra b rc) :=
  opcField_operateWord _ _ _ _ _
theorem EncodePrimary.mskbl (ra : Reg) (b : Operand2) (rc : Reg) : EncodePrimary.Statement (.mskbl ra b rc) :=
  opcField_operateWord _ _ _ _ _
theorem EncodePrimary.extbl (ra : Reg) (b : Operand2) (rc : Reg) : EncodePrimary.Statement (.extbl ra b rc) :=
  opcField_operateWord _ _ _ _ _
theorem EncodePrimary.insbl (ra : Reg) (b : Operand2) (rc : Reg) : EncodePrimary.Statement (.insbl ra b rc) :=
  opcField_operateWord _ _ _ _ _
theorem EncodePrimary.mskwl (ra : Reg) (b : Operand2) (rc : Reg) : EncodePrimary.Statement (.mskwl ra b rc) :=
  opcField_operateWord _ _ _ _ _
theorem EncodePrimary.extwl (ra : Reg) (b : Operand2) (rc : Reg) : EncodePrimary.Statement (.extwl ra b rc) :=
  opcField_operateWord _ _ _ _ _
theorem EncodePrimary.inswl (ra : Reg) (b : Operand2) (rc : Reg) : EncodePrimary.Statement (.inswl ra b rc) :=
  opcField_operateWord _ _ _ _ _
theorem EncodePrimary.mskll (ra : Reg) (b : Operand2) (rc : Reg) : EncodePrimary.Statement (.mskll ra b rc) :=
  opcField_operateWord _ _ _ _ _
theorem EncodePrimary.extll (ra : Reg) (b : Operand2) (rc : Reg) : EncodePrimary.Statement (.extll ra b rc) :=
  opcField_operateWord _ _ _ _ _
theorem EncodePrimary.insll (ra : Reg) (b : Operand2) (rc : Reg) : EncodePrimary.Statement (.insll ra b rc) :=
  opcField_operateWord _ _ _ _ _
theorem EncodePrimary.zap (ra : Reg) (b : Operand2) (rc : Reg) : EncodePrimary.Statement (.zap ra b rc) :=
  opcField_operateWord _ _ _ _ _
theorem EncodePrimary.zapnot (ra : Reg) (b : Operand2) (rc : Reg) : EncodePrimary.Statement (.zapnot ra b rc) :=
  opcField_operateWord _ _ _ _ _
theorem EncodePrimary.mskql (ra : Reg) (b : Operand2) (rc : Reg) : EncodePrimary.Statement (.mskql ra b rc) :=
  opcField_operateWord _ _ _ _ _
theorem EncodePrimary.srl (ra : Reg) (b : Operand2) (rc : Reg) : EncodePrimary.Statement (.srl ra b rc) :=
  opcField_operateWord _ _ _ _ _
theorem EncodePrimary.extql (ra : Reg) (b : Operand2) (rc : Reg) : EncodePrimary.Statement (.extql ra b rc) :=
  opcField_operateWord _ _ _ _ _
theorem EncodePrimary.sll (ra : Reg) (b : Operand2) (rc : Reg) : EncodePrimary.Statement (.sll ra b rc) :=
  opcField_operateWord _ _ _ _ _
theorem EncodePrimary.insql (ra : Reg) (b : Operand2) (rc : Reg) : EncodePrimary.Statement (.insql ra b rc) :=
  opcField_operateWord _ _ _ _ _
theorem EncodePrimary.sra (ra : Reg) (b : Operand2) (rc : Reg) : EncodePrimary.Statement (.sra ra b rc) :=
  opcField_operateWord _ _ _ _ _
theorem EncodePrimary.mskwh (ra : Reg) (b : Operand2) (rc : Reg) : EncodePrimary.Statement (.mskwh ra b rc) :=
  opcField_operateWord _ _ _ _ _
theorem EncodePrimary.inswh (ra : Reg) (b : Operand2) (rc : Reg) : EncodePrimary.Statement (.inswh ra b rc) :=
  opcField_operateWord _ _ _ _ _
theorem EncodePrimary.extwh (ra : Reg) (b : Operand2) (rc : Reg) : EncodePrimary.Statement (.extwh ra b rc) :=
  opcField_operateWord _ _ _ _ _
theorem EncodePrimary.msklh (ra : Reg) (b : Operand2) (rc : Reg) : EncodePrimary.Statement (.msklh ra b rc) :=
  opcField_operateWord _ _ _ _ _
theorem EncodePrimary.inslh (ra : Reg) (b : Operand2) (rc : Reg) : EncodePrimary.Statement (.inslh ra b rc) :=
  opcField_operateWord _ _ _ _ _
theorem EncodePrimary.extlh (ra : Reg) (b : Operand2) (rc : Reg) : EncodePrimary.Statement (.extlh ra b rc) :=
  opcField_operateWord _ _ _ _ _
theorem EncodePrimary.mskqh (ra : Reg) (b : Operand2) (rc : Reg) : EncodePrimary.Statement (.mskqh ra b rc) :=
  opcField_operateWord _ _ _ _ _
theorem EncodePrimary.insqh (ra : Reg) (b : Operand2) (rc : Reg) : EncodePrimary.Statement (.insqh ra b rc) :=
  opcField_operateWord _ _ _ _ _
theorem EncodePrimary.extqh (ra : Reg) (b : Operand2) (rc : Reg) : EncodePrimary.Statement (.extqh ra b rc) :=
  opcField_operateWord _ _ _ _ _
theorem EncodePrimary.mull (ra : Reg) (b : Operand2) (rc : Reg) : EncodePrimary.Statement (.mull ra b rc) :=
  opcField_operateWord _ _ _ _ _
theorem EncodePrimary.mulq (ra : Reg) (b : Operand2) (rc : Reg) : EncodePrimary.Statement (.mulq ra b rc) :=
  opcField_operateWord _ _ _ _ _
theorem EncodePrimary.umulh (ra : Reg) (b : Operand2) (rc : Reg) : EncodePrimary.Statement (.umulh ra b rc) :=
  opcField_operateWord _ _ _ _ _
theorem EncodePrimary.mullV (ra : Reg) (b : Operand2) (rc : Reg) : EncodePrimary.Statement (.mullV ra b rc) :=
  opcField_operateWord _ _ _ _ _
theorem EncodePrimary.mulqV (ra : Reg) (b : Operand2) (rc : Reg) : EncodePrimary.Statement (.mulqV ra b rc) :=
  opcField_operateWord _ _ _ _ _
theorem EncodePrimary.sextb (ra : Reg) (b : Operand2) (rc : Reg) : EncodePrimary.Statement (.sextb ra b rc) :=
  opcField_operateWord _ _ _ _ _
theorem EncodePrimary.sextw (ra : Reg) (b : Operand2) (rc : Reg) : EncodePrimary.Statement (.sextw ra b rc) :=
  opcField_operateWord _ _ _ _ _
theorem EncodePrimary.ctpop (ra : Reg) (b : Operand2) (rc : Reg) : EncodePrimary.Statement (.ctpop ra b rc) :=
  opcField_operateWord _ _ _ _ _
theorem EncodePrimary.perr (ra : Reg) (b : Operand2) (rc : Reg) : EncodePrimary.Statement (.perr ra b rc) :=
  opcField_operateWord _ _ _ _ _
theorem EncodePrimary.ctlz (ra : Reg) (b : Operand2) (rc : Reg) : EncodePrimary.Statement (.ctlz ra b rc) :=
  opcField_operateWord _ _ _ _ _
theorem EncodePrimary.cttz (ra : Reg) (b : Operand2) (rc : Reg) : EncodePrimary.Statement (.cttz ra b rc) :=
  opcField_operateWord _ _ _ _ _
theorem EncodePrimary.unpkbw (ra : Reg) (b : Operand2) (rc : Reg) : EncodePrimary.Statement (.unpkbw ra b rc) :=
  opcField_operateWord _ _ _ _ _
theorem EncodePrimary.unpkbl (ra : Reg) (b : Operand2) (rc : Reg) : EncodePrimary.Statement (.unpkbl ra b rc) :=
  opcField_operateWord _ _ _ _ _
theorem EncodePrimary.pkwb (ra : Reg) (b : Operand2) (rc : Reg) : EncodePrimary.Statement (.pkwb ra b rc) :=
  opcField_operateWord _ _ _ _ _
theorem EncodePrimary.pklb (ra : Reg) (b : Operand2) (rc : Reg) : EncodePrimary.Statement (.pklb ra b rc) :=
  opcField_operateWord _ _ _ _ _
theorem EncodePrimary.minsb8 (ra : Reg) (b : Operand2) (rc : Reg) : EncodePrimary.Statement (.minsb8 ra b rc) :=
  opcField_operateWord _ _ _ _ _
theorem EncodePrimary.minsw4 (ra : Reg) (b : Operand2) (rc : Reg) : EncodePrimary.Statement (.minsw4 ra b rc) :=
  opcField_operateWord _ _ _ _ _
theorem EncodePrimary.minub8 (ra : Reg) (b : Operand2) (rc : Reg) : EncodePrimary.Statement (.minub8 ra b rc) :=
  opcField_operateWord _ _ _ _ _
theorem EncodePrimary.minuw4 (ra : Reg) (b : Operand2) (rc : Reg) : EncodePrimary.Statement (.minuw4 ra b rc) :=
  opcField_operateWord _ _ _ _ _
theorem EncodePrimary.maxub8 (ra : Reg) (b : Operand2) (rc : Reg) : EncodePrimary.Statement (.maxub8 ra b rc) :=
  opcField_operateWord _ _ _ _ _
theorem EncodePrimary.maxuw4 (ra : Reg) (b : Operand2) (rc : Reg) : EncodePrimary.Statement (.maxuw4 ra b rc) :=
  opcField_operateWord _ _ _ _ _
theorem EncodePrimary.maxsb8 (ra : Reg) (b : Operand2) (rc : Reg) : EncodePrimary.Statement (.maxsb8 ra b rc) :=
  opcField_operateWord _ _ _ _ _
theorem EncodePrimary.maxsw4 (ra : Reg) (b : Operand2) (rc : Reg) : EncodePrimary.Statement (.maxsw4 ra b rc) :=
  opcField_operateWord _ _ _ _ _
theorem EncodePrimary.ftoit (ra : Reg) (b : Operand2) (rc : Reg) : EncodePrimary.Statement (.ftoit ra b rc) :=
  opcField_operateWord _ _ _ _ _
theorem EncodePrimary.ftois (ra : Reg) (b : Operand2) (rc : Reg) : EncodePrimary.Statement (.ftois ra b rc) :=
  opcField_operateWord _ _ _ _ _
theorem EncodePrimary.callPal (palfn : BitVec 26) : EncodePrimary.Statement (.callPal palfn) :=
  opcField_low26Word _ _
theorem EncodePrimary.opc01 (low : BitVec 26) : EncodePrimary.Statement (.opc01 low) :=
  opcField_low26Word _ _
theorem EncodePrimary.opc02 (low : BitVec 26) : EncodePrimary.Statement (.opc02 low) :=
  opcField_low26Word _ _
theorem EncodePrimary.opc03 (low : BitVec 26) : EncodePrimary.Statement (.opc03 low) :=
  opcField_low26Word _ _
theorem EncodePrimary.opc04 (low : BitVec 26) : EncodePrimary.Statement (.opc04 low) :=
  opcField_low26Word _ _
theorem EncodePrimary.opc05 (low : BitVec 26) : EncodePrimary.Statement (.opc05 low) :=
  opcField_low26Word _ _
theorem EncodePrimary.opc06 (low : BitVec 26) : EncodePrimary.Statement (.opc06 low) :=
  opcField_low26Word _ _
theorem EncodePrimary.opc07 (low : BitVec 26) : EncodePrimary.Statement (.opc07 low) :=
  opcField_low26Word _ _
theorem EncodePrimary.pal19 (low : BitVec 26) : EncodePrimary.Statement (.pal19 low) :=
  opcField_low26Word _ _
theorem EncodePrimary.pal1b (low : BitVec 26) : EncodePrimary.Statement (.pal1b low) :=
  opcField_low26Word _ _
theorem EncodePrimary.pal1d (low : BitVec 26) : EncodePrimary.Statement (.pal1d low) :=
  opcField_low26Word _ _
theorem EncodePrimary.pal1e (low : BitVec 26) : EncodePrimary.Statement (.pal1e low) :=
  opcField_low26Word _ _
theorem EncodePrimary.pal1f (low : BitVec 26) : EncodePrimary.Statement (.pal1f low) :=
  opcField_low26Word _ _
theorem EncodePrimary.itofs (fa fb fc : Reg) : EncodePrimary.Statement (.itofs fa fb fc) :=
  opcField_floatWord _ _ _ _ _
theorem EncodePrimary.itoff (fa fb fc : Reg) : EncodePrimary.Statement (.itoff fa fb fc) :=
  opcField_floatWord _ _ _ _ _
theorem EncodePrimary.itoft (fa fb fc : Reg) : EncodePrimary.Statement (.itoft fa fb fc) :=
  opcField_floatWord _ _ _ _ _
theorem EncodePrimary.sqrtf (fa fb : Reg) (fn : BitVec 11) (fc : Reg) : EncodePrimary.Statement (.sqrtf fa fb fn fc) :=
  opcField_floatWord _ _ _ _ _
theorem EncodePrimary.sqrts (fa fb : Reg) (fn : BitVec 11) (fc : Reg) : EncodePrimary.Statement (.sqrts fa fb fn fc) :=
  opcField_floatWord _ _ _ _ _
theorem EncodePrimary.sqrtg (fa fb : Reg) (fn : BitVec 11) (fc : Reg) : EncodePrimary.Statement (.sqrtg fa fb fn fc) :=
  opcField_floatWord _ _ _ _ _
theorem EncodePrimary.sqrtt (fa fb : Reg) (fn : BitVec 11) (fc : Reg) : EncodePrimary.Statement (.sqrtt fa fb fn fc) :=
  opcField_floatWord _ _ _ _ _
theorem EncodePrimary.addf (fa fb : Reg) (fn : BitVec 11) (fc : Reg) : EncodePrimary.Statement (.addf fa fb fn fc) :=
  opcField_floatWord _ _ _ _ _
theorem EncodePrimary.subf (fa fb : Reg) (fn : BitVec 11) (fc : Reg) : EncodePrimary.Statement (.subf fa fb fn fc) :=
  opcField_floatWord _ _ _ _ _
theorem EncodePrimary.mulf (fa fb : Reg) (fn : BitVec 11) (fc : Reg) : EncodePrimary.Statement (.mulf fa fb fn fc) :=
  opcField_floatWord _ _ _ _ _
theorem EncodePrimary.divf (fa fb : Reg) (fn : BitVec 11) (fc : Reg) : EncodePrimary.Statement (.divf fa fb fn fc) :=
  opcField_floatWord _ _ _ _ _
theorem EncodePrimary.cvtdg (fa fb : Reg) (fn : BitVec 11) (fc : Reg) : EncodePrimary.Statement (.cvtdg fa fb fn fc) :=
  opcField_floatWord _ _ _ _ _
theorem EncodePrimary.addg (fa fb : Reg) (fn : BitVec 11) (fc : Reg) : EncodePrimary.Statement (.addg fa fb fn fc) :=
  opcField_floatWord _ _ _ _ _
theorem EncodePrimary.subg (fa fb : Reg) (fn : BitVec 11) (fc : Reg) : EncodePrimary.Statement (.subg fa fb fn fc) :=
  opcField_floatWord _ _ _ _ _
theorem EncodePrimary.mulg (fa fb : Reg) (fn : BitVec 11) (fc : Reg) : EncodePrimary.Statement (.mulg fa fb fn fc) :=
  opcField_floatWord _ _ _ _ _
theorem EncodePrimary.divg (fa fb : Reg) (fn : BitVec 11) (fc : Reg) : EncodePrimary.Statement (.divg fa fb fn fc) :=
  opcField_floatWord _ _ _ _ _
theorem EncodePrimary.cmpgeq (fa fb : Reg) (fn : BitVec 11) (fc : Reg) : EncodePrimary.Statement (.cmpgeq fa fb fn fc) :=
  opcField_floatWord _ _ _ _ _
theorem EncodePrimary.cmpglt (fa fb : Reg) (fn : BitVec 11) (fc : Reg) : EncodePrimary.Statement (.cmpglt fa fb fn fc) :=
  opcField_floatWord _ _ _ _ _
theorem EncodePrimary.cmpgle (fa fb : Reg) (fn : BitVec 11) (fc : Reg) : EncodePrimary.Statement (.cmpgle fa fb fn fc) :=
  opcField_floatWord _ _ _ _ _
theorem EncodePrimary.cvtgf (fa fb : Reg) (fn : BitVec 11) (fc : Reg) : EncodePrimary.Statement (.cvtgf fa fb fn fc) :=
  opcField_floatWord _ _ _ _ _
theorem EncodePrimary.cvtgd (fa fb : Reg) (fn : BitVec 11) (fc : Reg) : EncodePrimary.Statement (.cvtgd fa fb fn fc) :=
  opcField_floatWord _ _ _ _ _
theorem EncodePrimary.cvtgq (fa fb : Reg) (fn : BitVec 11) (fc : Reg) : EncodePrimary.Statement (.cvtgq fa fb fn fc) :=
  opcField_floatWord _ _ _ _ _
theorem EncodePrimary.cvtqf (fa fb : Reg) (fn : BitVec 11) (fc : Reg) : EncodePrimary.Statement (.cvtqf fa fb fn fc) :=
  opcField_floatWord _ _ _ _ _
theorem EncodePrimary.cvtqg (fa fb : Reg) (fn : BitVec 11) (fc : Reg) : EncodePrimary.Statement (.cvtqg fa fb fn fc) :=
  opcField_floatWord _ _ _ _ _
theorem EncodePrimary.adds (fa fb : Reg) (fn : BitVec 11) (fc : Reg) : EncodePrimary.Statement (.adds fa fb fn fc) :=
  opcField_floatWord _ _ _ _ _
theorem EncodePrimary.subs (fa fb : Reg) (fn : BitVec 11) (fc : Reg) : EncodePrimary.Statement (.subs fa fb fn fc) :=
  opcField_floatWord _ _ _ _ _
theorem EncodePrimary.muls (fa fb : Reg) (fn : BitVec 11) (fc : Reg) : EncodePrimary.Statement (.muls fa fb fn fc) :=
  opcField_floatWord _ _ _ _ _
theorem EncodePrimary.divs (fa fb : Reg) (fn : BitVec 11) (fc : Reg) : EncodePrimary.Statement (.divs fa fb fn fc) :=
  opcField_floatWord _ _ _ _ _
theorem EncodePrimary.addt (fa fb : Reg) (fn : BitVec 11) (fc : Reg) : EncodePrimary.Statement (.addt fa fb fn fc) :=
  opcField_floatWord _ _ _ _ _
theorem EncodePrimary.subt (fa fb : Reg) (fn : BitVec 11) (fc : Reg) : EncodePrimary.Statement (.subt fa fb fn fc) :=
  opcField_floatWord _ _ _ _ _
theorem EncodePrimary.mult (fa fb : Reg) (fn : BitVec 11) (fc : Reg) : EncodePrimary.Statement (.mult fa fb fn fc) :=
  opcField_floatWord _ _ _ _ _
theorem EncodePrimary.divt (fa fb : Reg) (fn : BitVec 11) (fc : Reg) : EncodePrimary.Statement (.divt fa fb fn fc) :=
  opcField_floatWord _ _ _ _ _
theorem EncodePrimary.cmptun (fa fb : Reg) (fn : BitVec 11) (fc : Reg) : EncodePrimary.Statement (.cmptun fa fb fn fc) :=
  opcField_floatWord _ _ _ _ _
theorem EncodePrimary.cmpteq (fa fb : Reg) (fn : BitVec 11) (fc : Reg) : EncodePrimary.Statement (.cmpteq fa fb fn fc) :=
  opcField_floatWord _ _ _ _ _
theorem EncodePrimary.cmptlt (fa fb : Reg) (fn : BitVec 11) (fc : Reg) : EncodePrimary.Statement (.cmptlt fa fb fn fc) :=
  opcField_floatWord _ _ _ _ _
theorem EncodePrimary.cmptle (fa fb : Reg) (fn : BitVec 11) (fc : Reg) : EncodePrimary.Statement (.cmptle fa fb fn fc) :=
  opcField_floatWord _ _ _ _ _
theorem EncodePrimary.cvtts (fa fb : Reg) (fn : BitVec 11) (fc : Reg) : EncodePrimary.Statement (.cvtts fa fb fn fc) :=
  opcField_floatWord _ _ _ _ _
theorem EncodePrimary.cvttq (fa fb : Reg) (fn : BitVec 11) (fc : Reg) : EncodePrimary.Statement (.cvttq fa fb fn fc) :=
  opcField_floatWord _ _ _ _ _
theorem EncodePrimary.cvtqs (fa fb : Reg) (fn : BitVec 11) (fc : Reg) : EncodePrimary.Statement (.cvtqs fa fb fn fc) :=
  opcField_floatWord _ _ _ _ _
theorem EncodePrimary.cvtqt (fa fb : Reg) (fn : BitVec 11) (fc : Reg) : EncodePrimary.Statement (.cvtqt fa fb fn fc) :=
  opcField_floatWord _ _ _ _ _
theorem EncodePrimary.cvtst (fa fb : Reg) (fn : BitVec 11) (fc : Reg) : EncodePrimary.Statement (.cvtst fa fb fn fc) :=
  opcField_floatWord _ _ _ _ _
theorem EncodePrimary.cvtlq (fa fb fc : Reg) : EncodePrimary.Statement (.cvtlq fa fb fc) :=
  opcField_floatWord _ _ _ _ _
theorem EncodePrimary.cpys (fa fb fc : Reg) : EncodePrimary.Statement (.cpys fa fb fc) :=
  opcField_floatWord _ _ _ _ _
theorem EncodePrimary.cpysn (fa fb fc : Reg) : EncodePrimary.Statement (.cpysn fa fb fc) :=
  opcField_floatWord _ _ _ _ _
theorem EncodePrimary.cpyse (fa fb fc : Reg) : EncodePrimary.Statement (.cpyse fa fb fc) :=
  opcField_floatWord _ _ _ _ _
theorem EncodePrimary.mtFpcr (fa fb fc : Reg) : EncodePrimary.Statement (.mtFpcr fa fb fc) :=
  opcField_floatWord _ _ _ _ _
theorem EncodePrimary.mfFpcr (fa fb fc : Reg) : EncodePrimary.Statement (.mfFpcr fa fb fc) :=
  opcField_floatWord _ _ _ _ _
theorem EncodePrimary.fcmoveq (fa fb fc : Reg) : EncodePrimary.Statement (.fcmoveq fa fb fc) :=
  opcField_floatWord _ _ _ _ _
theorem EncodePrimary.fcmovne (fa fb fc : Reg) : EncodePrimary.Statement (.fcmovne fa fb fc) :=
  opcField_floatWord _ _ _ _ _
theorem EncodePrimary.fcmovlt (fa fb fc : Reg) : EncodePrimary.Statement (.fcmovlt fa fb fc) :=
  opcField_floatWord _ _ _ _ _
theorem EncodePrimary.fcmovge (fa fb fc : Reg) : EncodePrimary.Statement (.fcmovge fa fb fc) :=
  opcField_floatWord _ _ _ _ _
theorem EncodePrimary.fcmovle (fa fb fc : Reg) : EncodePrimary.Statement (.fcmovle fa fb fc) :=
  opcField_floatWord _ _ _ _ _
theorem EncodePrimary.fcmovgt (fa fb fc : Reg) : EncodePrimary.Statement (.fcmovgt fa fb fc) :=
  opcField_floatWord _ _ _ _ _
theorem EncodePrimary.cvtql (fa fb : Reg) (fn : BitVec 11) (fc : Reg) : EncodePrimary.Statement (.cvtql fa fb fn fc) :=
  opcField_floatWord _ _ _ _ _
theorem EncodePrimary.unknown (w : InstrWord) : EncodePrimary.Statement (.unknown w) :=
  rfl

end Sys2Proof.Laws
end

