-- ==== Sys2Proof/Tests/Slice0.lean ====
section
/-! SUPPORT. Tests. Words, values and final states are those of spec/95_test_vectors.md and of the examples of the
family files. Part 1 tests well-formedness, part 2 decoding, part 3 single steps; part 4 has, for each statement with
hypotheses, states and operands that meet them. -/

namespace Sys2Proof

open Machine

/-! ### 1. Well-formedness: each check refuses an ill-formed term -/

/-- `func11` 0x7FF is in no table of primary 0x16 (R113). -/
theorem test_wf_func11 : (Instr.addt 1#5 2#5 0x7FF#11 3#5).wellFormed = false := by decide

/-- `func11` 0x0A1 is a value of `subt`, not of `addt` (R113). -/
theorem test_wf_func11_other : (Instr.addt 1#5 2#5 0x0A1#11 3#5).wellFormed = false := by decide

/-- The word of `mb` is allocated, so it is no `unknown` (R120). -/
theorem test_wf_unknown : (Instr.unknown 0x63FF4000#32).wellFormed = false := by decide

/-! ### 2. Decoding: one word of the spec for every constructor -/

/-- Each word decodes to its instruction, which is well formed and encodes to the word. -/
abbrev Decodes (l : List (InstrWord × Instr)) : Prop :=
  ∀ p ∈ l, decode p.1 = p.2 ∧ encode p.2 = p.1 ∧ p.2.wellFormed = true

def wordsMemory : List (InstrWord × Instr) :=
  [(0x203EFFF8, .lda 1#5 30#5 0xFFF8#16), (0x247F0001, .ldah 3#5 31#5 0x1#16),
   (0x28220003, .ldbu 1#5 2#5 0x3#16), (0x2C220005, .ldqU 1#5 2#5 0x5#16), (0x30220018, .ldwu 1#5 2#5 0x18#16),
   (0x34220011, .stw 1#5 2#5 0x11#16), (0x38220003, .stb 1#5 2#5 0x3#16), (0x3C22000D, .stqU 1#5 2#5 0xD#16),
   (0x83E20010, .ldf 31#5 2#5 0x10#16), (0x87E20000, .ldg 31#5 2#5 0x0#16), (0x88220008, .lds 1#5 2#5 0x8#16),
   (0x8C220008, .ldt 1#5 2#5 0x8#16), (0x93E20000, .stf 31#5 2#5 0x0#16), (0x97E20000, .stg 31#5 2#5 0x0#16),
   (0x9BE20000, .sts 31#5 2#5 0x0#16), (0x9FE20010, .stt 31#5 2#5 0x10#16), (0xA0220010, .ldl 1#5 2#5 0x10#16),
   (0xA4220008, .ldq 1#5 2#5 0x8#16), (0xA8220000, .ldlL 1#5 2#5 0x0#16), (0xAC220010, .ldqL 1#5 2#5 0x10#16),
   (0xB0220004, .stl 1#5 2#5 0x4#16), (0xB4220008, .stq 1#5 2#5 0x8#16), (0xB8220010, .stlC 1#5 2#5 0x10#16),
   (0xBC220000, .stqC 1#5 2#5 0x0#16)]

theorem test_decode_memory : Decodes wordsMemory := by decide

def wordsBranch : List (InstrWord × Instr) :=
  [(0xC0200005, .br 1#5 0x5#21), (0xC4200004, .fbeq 1#5 0x4#21), (0xC8200004, .fblt 1#5 0x4#21),
   (0xCC200004, .fble 1#5 0x4#21), (0xD35FFFFE, .bsr 26#5 0x1FFFFE#21), (0xD4200004, .fbne 1#5 0x4#21),
   (0xD8200004, .fbge 1#5 0x4#21), (0xDC200004, .fbgt 1#5 0x4#21), (0xE0400005, .blbc 2#5 0x5#21),
   (0xE4400005, .beq 2#5 0x5#21), (0xE8400005, .blt 2#5 0x5#21), (0xEC400005, .ble 2#5 0x5#21),
   (0xF0400005, .blbs 2#5 0x5#21), (0xF4400005, .bne 2#5 0x5#21), (0xF8400005, .bge 2#5 0x5#21),
   (0xFC400005, .bgt 2#5 0x5#21)]

theorem test_decode_branch : Decodes wordsBranch := by decide

def wordsJump : List (InstrWord × Instr) :=
  [(0x6B5B0123, .jmp 26#5 27#5 0x123#14), (0x6B5B4123, .jsr 26#5 27#5 0x123#14),
   (0x6B5B8123, .ret 26#5 27#5 0x123#14), (0x6B5BC123, .jsrCoroutine 26#5 27#5 0x123#14)]

theorem test_decode_jump : Decodes wordsJump := by decide

def wordsCompute : List (InstrWord × Instr) :=
  [(0x63FF0000, .trapb 31#5 31#5), (0x63FF0400, .excb 31#5 31#5), (0x63FF4000, .mb 31#5 31#5),
   (0x63FF4400, .wmb 31#5 31#5), (0x63FF8000, .fetch 31#5 31#5), (0x63FFA000, .fetchM 31#5 31#5),
   (0x6022C000, .rpcc 1#5 2#5), (0x63FFE000, .rc 31#5 31#5), (0x63FFE800, .ecb 31#5 31#5),
   (0x63FFF000, .rs 31#5 31#5), (0x63FFF800, .wh64 31#5 31#5), (0x63FFFC00, .wh64en 31#5 31#5)]

theorem test_decode_compute : Decodes wordsCompute := by decide

def wordsOperate10 : List (InstrWord × Instr) :=
  [(0x40220003, .addl 1#5 (.reg 2#5 0#3) 3#5), (0x40220043, .s4addl 1#5 (.reg 2#5 0#3) 3#5),
   (0x40220123, .subl 1#5 (.reg 2#5 0#3) 3#5), (0x40220163, .s4subl 1#5 (.reg 2#5 0#3) 3#5),
   (0x402201E3, .cmpbge 1#5 (.reg 2#5 0#3) 3#5), (0x40220243, .s8addl 1#5 (.reg 2#5 0#3) 3#5),
   (0x40221363, .s8subl 1#5 (.lit 16#8) 3#5), (0x402203A3, .cmpult 1#5 (.reg 2#5 0#3) 3#5),
   (0x40220403, .addq 1#5 (.reg 2#5 0#3) 3#5), (0x40220443, .s4addq 1#5 (.reg 2#5 0#3) 3#5),
   (0x40220523, .subq 1#5 (.reg 2#5 0#3) 3#5), (0x40220563, .s4subq 1#5 (.reg 2#5 0#3) 3#5),
   (0x402205A3, .cmpeq 1#5 (.reg 2#5 0#3) 3#5), (0x40220643, .s8addq 1#5 (.reg 2#5 0#3) 3#5),
   (0x40203763, .s8subq 1#5 (.lit 1#8) 3#5), (0x402207A3, .cmpule 1#5 (.reg 2#5 0#3) 3#5),
   (0x40220803, .addlV 1#5 (.reg 2#5 0#3) 3#5), (0x40220923, .sublV 1#5 (.reg 2#5 0#3) 3#5),
   (0x402209A3, .cmplt 1#5 (.reg 2#5 0#3) 3#5), (0x40220C03, .addqV 1#5 (.reg 2#5 0#3) 3#5),
   (0x40220D23, .subqV 1#5 (.reg 2#5 0#3) 3#5), (0x40220DA3, .cmple 1#5 (.reg 2#5 0#3) 3#5)]

theorem test_decode_operate10 : Decodes wordsOperate10 := by decide

def wordsOperate11 : List (InstrWord × Instr) :=
  [(0x44220003, .and 1#5 (.reg 2#5 0#3) 3#5), (0x44220103, .bic 1#5 (.reg 2#5 0#3) 3#5),
   (0x44220283, .cmovlbs 1#5 (.reg 2#5 0#3) 3#5), (0x442202C3, .cmovlbc 1#5 (.reg 2#5 0#3) 3#5),
   (0x44220403, .bis 1#5 (.reg 2#5 0#3) 3#5), (0x44220483, .cmoveq 1#5 (.reg 2#5 0#3) 3#5),
   (0x442204C3, .cmovne 1#5 (.reg 2#5 0#3) 3#5), (0x44220503, .ornot 1#5 (.reg 2#5 0#3) 3#5),
   (0x44220803, .xor 1#5 (.reg 2#5 0#3) 3#5), (0x44220883, .cmovlt 1#5 (.reg 2#5 0#3) 3#5),
   (0x442208C3, .cmovge 1#5 (.reg 2#5 0#3) 3#5), (0x44220903, .eqv 1#5 (.reg 2#5 0#3) 3#5),
   (0x44220C23, .amask 1#5 (.reg 2#5 0#3) 3#5), (0x44220C83, .cmovle 1#5 (.reg 2#5 0#3) 3#5),
   (0x44220CC3, .cmovgt 1#5 (.reg 2#5 0#3) 3#5), (0x44220D83, .implver 1#5 (.reg 2#5 0#3) 3#5)]

theorem test_decode_operate11 : Decodes wordsOperate11 := by decide

def wordsOperate12 : List (InstrWord × Instr) :=
  [(0x48201043, .mskbl 1#5 (.lit 0#8) 3#5), (0x482200C3, .extbl 1#5 (.reg 2#5 0#3) 3#5),
   (0x48201163, .insbl 1#5 (.lit 0#8) 3#5), (0x48201243, .mskwl 1#5 (.lit 0#8) 3#5),
   (0x482012C3, .extwl 1#5 (.lit 0#8) 3#5), (0x48201363, .inswl 1#5 (.lit 0#8) 3#5),
   (0x48201443, .mskll 1#5 (.lit 0#8) 3#5), (0x482014C3, .extll 1#5 (.lit 0#8) 3#5),
   (0x48201563, .insll 1#5 (.lit 0#8) 3#5), (0x48355603, .zap 1#5 (.lit 170#8) 3#5),
   (0x48303623, .zapnot 1#5 (.lit 129#8) 3#5), (0x48201643, .mskql 1#5 (.lit 0#8) 3#5),
   (0x4827F683, .srl 1#5 (.lit 63#8) 3#5), (0x482016C3, .extql 1#5 (.lit 0#8) 3#5),
   (0x4827F723, .sll 1#5 (.lit 63#8) 3#5), (0x48201763, .insql 1#5 (.lit 0#8) 3#5),
   (0x4827D783, .sra 1#5 (.lit 62#8) 3#5), (0x48201A43, .mskwh 1#5 (.lit 0#8) 3#5),
   (0x48201AE3, .inswh 1#5 (.lit 0#8) 3#5), (0x48201B43, .extwh 1#5 (.lit 0#8) 3#5),
   (0x48201C43, .msklh 1#5 (.lit 0#8) 3#5), (0x48201CE3, .inslh 1#5 (.lit 0#8) 3#5),
   (0x48201D43, .extlh 1#5 (.lit 0#8) 3#5), (0x48201E43, .mskqh 1#5 (.lit 0#8) 3#5),
   (0x48201EE3, .insqh 1#5 (.lit 0#8) 3#5), (0x48201F43, .extqh 1#5 (.lit 0#8) 3#5)]

theorem test_decode_operate12 : Decodes wordsOperate12 := by decide

def wordsOperate13 : List (InstrWord × Instr) :=
  [(0x4C220003, .mull 1#5 (.reg 2#5 0#3) 3#5), (0x4C220403, .mulq 1#5 (.reg 2#5 0#3) 3#5),
   (0x4C220603, .umulh 1#5 (.reg 2#5 0#3) 3#5), (0x4C220803, .mullV 1#5 (.reg 2#5 0#3) 3#5),
   (0x4C220C03, .mulqV 1#5 (.reg 2#5 0#3) 3#5)]

theorem test_decode_operate13 : Decodes wordsOperate13 := by decide

def wordsOperate1C : List (InstrWord × Instr) :=
  [(0x70220003, .sextb 1#5 (.reg 2#5 0#3) 3#5), (0x70220023, .sextw 1#5 (.reg 2#5 0#3) 3#5),
   (0x70220603, .ctpop 1#5 (.reg 2#5 0#3) 3#5), (0x70220623, .perr 1#5 (.reg 2#5 0#3) 3#5),
   (0x70220643, .ctlz 1#5 (.reg 2#5 0#3) 3#5), (0x70220663, .cttz 1#5 (.reg 2#5 0#3) 3#5),
   (0x70220683, .unpkbw 1#5 (.reg 2#5 0#3) 3#5), (0x702206A3, .unpkbl 1#5 (.reg 2#5 0#3) 3#5),
   (0x702206C3, .pkwb 1#5 (.reg 2#5 0#3) 3#5), (0x702206E3, .pklb 1#5 (.reg 2#5 0#3) 3#5),
   (0x70220703, .minsb8 1#5 (.reg 2#5 0#3) 3#5), (0x70220723, .minsw4 1#5 (.reg 2#5 0#3) 3#5),
   (0x70220743, .minub8 1#5 (.reg 2#5 0#3) 3#5), (0x70220763, .minuw4 1#5 (.reg 2#5 0#3) 3#5),
   (0x70220783, .maxub8 1#5 (.reg 2#5 0#3) 3#5), (0x702207A3, .maxuw4 1#5 (.reg 2#5 0#3) 3#5),
   (0x702207C3, .maxsb8 1#5 (.reg 2#5 0#3) 3#5), (0x702207E3, .maxsw4 1#5 (.reg 2#5 0#3) 3#5),
   (0x70220E03, .ftoit 1#5 (.reg 2#5 0#3) 3#5), (0x70220F03, .ftois 1#5 (.reg 2#5 0#3) 3#5)]

theorem test_decode_operate1C : Decodes wordsOperate1C := by decide

def wordsPal : List (InstrWord × Instr) :=
  [(0x00000083, .callPal 0x83#26), (0x04000123, .opc01 0x123#26), (0x08000123, .opc02 0x123#26),
   (0x0C000123, .opc03 0x123#26), (0x10000123, .opc04 0x123#26), (0x14000123, .opc05 0x123#26),
   (0x18000123, .opc06 0x123#26), (0x1C000123, .opc07 0x123#26), (0x64155555, .pal19 0x155555#26),
   (0x6C155555, .pal1b 0x155555#26), (0x74155555, .pal1d 0x155555#26), (0x78155555, .pal1e 0x155555#26),
   (0x7C155555, .pal1f 0x155555#26), (0x70000043, .unknown 0x70000043#32)]

theorem test_decode_pal : Decodes wordsPal := by decide

def wordsFloat14 : List (InstrWord × Instr) :=
  [(0x50220083, .itofs 1#5 2#5 3#5), (0x50220283, .itoff 1#5 2#5 3#5), (0x50220483, .itoft 1#5 2#5 3#5),
   (0x50221143, .sqrtf 1#5 2#5 0x8A#11 3#5), (0x50221163, .sqrts 1#5 2#5 0x8B#11 3#5),
   (0x50221543, .sqrtg 1#5 2#5 0xAA#11 3#5), (0x50221563, .sqrtt 1#5 2#5 0xAB#11 3#5)]

theorem test_decode_float14 : Decodes wordsFloat14 := by decide

def wordsFloat15 : List (InstrWord × Instr) :=
  [(0x54221003, .addf 1#5 2#5 0x80#11 3#5), (0x54221023, .subf 1#5 2#5 0x81#11 3#5),
   (0x54221043, .mulf 1#5 2#5 0x82#11 3#5), (0x54221063, .divf 1#5 2#5 0x83#11 3#5),
   (0x542213C3, .cvtdg 1#5 2#5 0x9E#11 3#5), (0x54221403, .addg 1#5 2#5 0xA0#11 3#5),
   (0x54221423, .subg 1#5 2#5 0xA1#11 3#5), (0x54221443, .mulg 1#5 2#5 0xA2#11 3#5),
   (0x54221463, .divg 1#5 2#5 0xA3#11 3#5), (0x542214A3, .cmpgeq 1#5 2#5 0xA5#11 3#5),
   (0x542214C3, .cmpglt 1#5 2#5 0xA6#11 3#5), (0x542214E3, .cmpgle 1#5 2#5 0xA7#11 3#5),
   (0x54221583, .cvtgf 1#5 2#5 0xAC#11 3#5), (0x542215A3, .cvtgd 1#5 2#5 0xAD#11 3#5),
   (0x542215E3, .cvtgq 1#5 2#5 0xAF#11 3#5), (0x54221783, .cvtqf 1#5 2#5 0xBC#11 3#5),
   (0x542217C3, .cvtqg 1#5 2#5 0xBE#11 3#5)]

theorem test_decode_float15 : Decodes wordsFloat15 := by decide

def wordsFloat16 : List (InstrWord × Instr) :=
  [(0x58221003, .adds 1#5 2#5 0x80#11 3#5), (0x58221023, .subs 1#5 2#5 0x81#11 3#5),
   (0x58221043, .muls 1#5 2#5 0x82#11 3#5), (0x58221063, .divs 1#5 2#5 0x83#11 3#5),
   (0x58221403, .addt 1#5 2#5 0xA0#11 3#5), (0x58221423, .subt 1#5 2#5 0xA1#11 3#5),
   (0x58221443, .mult 1#5 2#5 0xA2#11 3#5), (0x58221463, .divt 1#5 2#5 0xA3#11 3#5),
   (0x58221483, .cmptun 1#5 2#5 0xA4#11 3#5), (0x582214A3, .cmpteq 1#5 2#5 0xA5#11 3#5),
   (0x582214C3, .cmptlt 1#5 2#5 0xA6#11 3#5), (0x582214E3, .cmptle 1#5 2#5 0xA7#11 3#5),
   (0x58221583, .cvtts 1#5 2#5 0xAC#11 3#5), (0x582215E3, .cvttq 1#5 2#5 0xAF#11 3#5),
   (0x58221783, .cvtqs 1#5 2#5 0xBC#11 3#5), (0x582217C3, .cvtqt 1#5 2#5 0xBE#11 3#5),
   (0x58225583, .cvtst 1#5 2#5 0x2AC#11 3#5)]

theorem test_decode_float16 : Decodes wordsFloat16 := by decide

def wordsFloat17 : List (InstrWord × Instr) :=
  [(0x5C220203, .cvtlq 1#5 2#5 3#5), (0x5C220403, .cpys 1#5 2#5 3#5), (0x5C220423, .cpysn 1#5 2#5 3#5),
   (0x5C220443, .cpyse 1#5 2#5 3#5), (0x5C220483, .mtFpcr 1#5 2#5 3#5), (0x5C2204A3, .mfFpcr 1#5 2#5 3#5),
   (0x5C220543, .fcmoveq 1#5 2#5 3#5), (0x5C220563, .fcmovne 1#5 2#5 3#5), (0x5C220583, .fcmovlt 1#5 2#5 3#5),
   (0x5C2205A3, .fcmovge 1#5 2#5 3#5), (0x5C2205C3, .fcmovle 1#5 2#5 3#5), (0x5C2205E3, .fcmovgt 1#5 2#5 3#5),
   (0x5C220603, .cvtql 1#5 2#5 0x30#11 3#5)]

theorem test_decode_float17 : Decodes wordsFloat17 := by decide

/-- Ignored bits, literals and unallocated words (R100, R118, R120; section 2.10 of 95_test_vectors.md). -/
def wordsOther : List (InstrWord × Instr) :=
  [(0x40391003, .addl 1#5 (.lit 200#8) 3#5), (0x4022E003, .addl 1#5 (.reg 2#5 7#3) 3#5),
   (0x5822B403, .addt 1#5 2#5 0x5A0#11 3#5), (0x6B5B4123, .jsr 26#5 27#5 0x123#14),
   (0x63FF4001, .unknown 0x63FF4001), (0x40000FE3, .unknown 0x40000FE3), (0x44000023, .unknown 0x44000023),
   (0x4800001F, .unknown 0x4800001F), (0x4C000203, .unknown 0x4C000203), (0x5800FFE0, .unknown 0x5800FFE0),
   (0x5C000000, .unknown 0x5C000000)]

theorem test_decode_other : Decodes wordsOther := by decide

/-- Bit 0 of the table's word is the least significant bit of the byte at the lowest address (R57, R90). -/
theorem test_decodeTableWord : decodeTableWord 32 0x47FF041F = some (.bis 31#5 (.reg 31#5 0#3) 31#5) := by decide

/-! ### 3. One step -/

/-- Configuration A of 95_test_vectors.md with the data bytes of its section 2.3. -/
def configA (w : InstrWord) : Config where
  loadStart := 0x2000
  loadEnd := 0x2020
  imageInit := Memory.writeLE (Memory.writeLE (Memory.writeLE [] 0x2000 4 (w.setWidth 64))
    0x2010 8 0x0807060504030201#64) 0x2018 8 0xFFEEDDCCBBAA9988#64
  stackStart := 0x07F00000
  textStart := 0x2000
  textSize := 4
  entry := 0x2000#64

/-- The reset state with the word `w` at 0x2000 and some registers set. -/
def start (w : InstrWord) (xs : List (Reg × Word)) : State :=
  xs.foldl (fun s x => s.setReg x.1 x.2) (State.ofConfig (configA w))

/-- What one step from `s` leaves, if it has a next state. -/
def after {α : Type} (s : State) (view : State → α) : Option α :=
  match step s with
  | .next t => some (view t)
  | _ => none

theorem exists_next {α : Type} {s : State} {view : State → α} {x : α} (h : after s view = some x) :
    ∃ t, step s = .next t ∧ view t = x := by
  unfold after at h
  split at h
  · rename_i t ht; exact ⟨t, ht, Option.some.inj h⟩
  · cases h

/-- A word, the registers set, a register and, after one step, its value and the pc. -/
abbrev Case := InstrWord × List (Reg × Word) × Reg × Word × Word

/-- The step of a case. -/
abbrev Gives (c : Case) : Prop :=
  after (start c.1 c.2.1) (fun t => (t.reg c.2.2.1, t.pc, t.status, t.out)) =
    some (c.2.2.2.1, c.2.2.2.2, .running, [])

/-- The steps of all cases of a list. -/
abbrev AllGive (l : List Case) : Prop := ∀ c ∈ l, Gives c

def loadsCases : List Case :=
  [(0x203EFFF8, [], 1, 0x7FFFFF8, 0x2004), (0x203F7FFF, [], 1, 0x7FFF, 0x2004),
   (0x243F8000, [], 1, 0xFFFFFFFF80000000, 0x2004), (0x243F1000, [], 1, 0x10000000, 0x2004),
   (0x28220018, [(2, 0x2000)], 1, 0x88, 0x2004), (0x283EFFFF, [], 1, 0x0, 0x2004),
   (0x2C220013, [(2, 0x2000)], 1, 0x807060504030201, 0x2004),
   (0x2C22001D, [(2, 0x2000)], 1, 0xFFEEDDCCBBAA9988, 0x2004), (0x30220018, [(2, 0x2000)], 1, 0x9988, 0x2004),
   (0x30220017, [(2, 0x2000)], 1, 0x8808, 0x2004), (0x8BE20008, [(2, 0x0)], 2, 0x0, 0x2004),
   (0x8FE20000, [(2, 0x0)], 2, 0x0, 0x2004), (0xA0220010, [(2, 0x2000)], 1, 0x4030201, 0x2004),
   (0xA0220018, [(2, 0x2000)], 1, 0xFFFFFFFFBBAA9988, 0x2004),
   (0xA4220010, [(2, 0x2000)], 1, 0x807060504030201, 0x2004),
   (0xA4220013, [(2, 0x2000)], 1, 0xAA99880807060504, 0x2004)]

theorem test_loads : AllGive loadsCases := by decide

def branchesCases : List Case :=
  [(0xC0200005, [], 1, 0x2004, 0x2018), (0xD35FFFFE, [], 26, 0x2004, 0x1FFC),
   (0xE0400005, [(2, 0x2)], 2, 0x2, 0x2018), (0xE0400005, [(2, 0x3)], 2, 0x3, 0x2004),
   (0xE4400005, [(2, 0x0)], 2, 0x0, 0x2018), (0xE4400005, [(2, 0x1)], 2, 0x1, 0x2004),
   (0xE8400005, [(2, 0xFFFFFFFFFFFFFFFF)], 2, 0xFFFFFFFFFFFFFFFF, 0x2018),
   (0xE8400005, [(2, 0x0)], 2, 0x0, 0x2004), (0xEC400005, [(2, 0x0)], 2, 0x0, 0x2018),
   (0xEC400005, [(2, 0x1)], 2, 0x1, 0x2004),
   (0xF0400005, [(2, 0xFFFFFFFFFFFFFFFF)], 2, 0xFFFFFFFFFFFFFFFF, 0x2018),
   (0xF0400005, [(2, 0x8000000000000000)], 2, 0x8000000000000000, 0x2004),
   (0xF4400005, [(2, 0x8000000000000000)], 2, 0x8000000000000000, 0x2018),
   (0xF4400005, [(2, 0x0)], 2, 0x0, 0x2004), (0xF8400005, [(2, 0x0)], 2, 0x0, 0x2018),
   (0xF8400005, [(2, 0xFFFFFFFFFFFFFFFF)], 2, 0xFFFFFFFFFFFFFFFF, 0x2004),
   (0xFC400005, [(2, 0x1)], 2, 0x1, 0x2018), (0xFC400005, [(2, 0x0)], 2, 0x0, 0x2004)]

theorem test_branches : AllGive branchesCases := by decide

def jumpsCases : List Case :=
  [(0x6B5B0123, [(27, 0x2010)], 26, 0x2004, 0x2010), (0x6BE10000, [(1, 0x2003)], 1, 0x2003, 0x2003),
   (0x6B5B4123, [(27, 0x2010)], 26, 0x2004, 0x2010), (0x6B5A4000, [], 26, 0x2004, 0x8000000),
   (0x6B5B8123, [(27, 0x2010)], 26, 0x2004, 0x2010), (0x6BFF8000, [], 31, 0x0, 0x0),
   (0x6B5BC123, [(27, 0x2010)], 26, 0x2004, 0x2010)]

theorem test_jumps : AllGive jumpsCases := by decide

def arithmeticCases : List Case :=
  [(0x40220003, [(1, 0x7FFFFFFF), (2, 0x1)], 3, 0xFFFFFFFF80000000, 0x2004),
   (0x403FF003, [(1, 0x5)], 3, 0x104, 0x2004), (0x40220043, [(1, 0x40000000), (2, 0x1)], 3, 0x1, 0x2004),
   (0x40220043, [(1, 0x40000001), (2, 0x3)], 3, 0x7, 0x2004),
   (0x40220123, [(1, 0x80000000), (2, 0x1)], 3, 0x7FFFFFFF, 0x2004),
   (0x40220123, [(1, 0x0), (2, 0x1)], 3, 0xFFFFFFFFFFFFFFFF, 0x2004),
   (0x40220163, [(1, 0x5), (2, 0x1)], 3, 0x13, 0x2004), (0x4020B163, [(1, 0x1)], 3, 0xFFFFFFFFFFFFFFFF, 0x2004),
   (0x402201E3, [(1, 0xFF7F80017F0100), (2, 0x100807F01800100)], 3, 0x5B, 0x2004),
   (0x43E201E3, [(2, 0x4142004400464748)], 3, 0x28, 0x2004), (0x40209243, [(1, 0x3)], 3, 0x1C, 0x2004),
   (0x40220243, [(1, 0x10000000), (2, 0xFFFFFFFF)], 3, 0x7FFFFFFF, 0x2004),
   (0x40220363, [(1, 0x10000000), (2, 0x0)], 3, 0xFFFFFFFF80000000, 0x2004),
   (0x40221363, [(1, 0x1)], 3, 0xFFFFFFFFFFFFFFF8, 0x2004), (0x402033A3, [(1, 0x0)], 3, 0x1, 0x2004),
   (0x402203A3, [(1, 0xFFFFFFFFFFFFFFFF), (2, 0x0)], 3, 0x0, 0x2004),
   (0x40220403, [(1, 0x7FFFFFFFFFFFFFFF), (2, 0x1)], 3, 0x8000000000000000, 0x2004),
   (0x40210401, [(1, 0x7)], 1, 0xE, 0x2004),
   (0x40220443, [(1, 0x4000000000000001), (2, 0x3000)], 3, 0x3004, 0x2004),
   (0x40220443, [(1, 0x4000000000000001), (2, 0x3)], 3, 0x7, 0x2004),
   (0x40220523, [(1, 0x8000000000000000), (2, 0x1)], 3, 0x7FFFFFFFFFFFFFFF, 0x2004),
   (0x40241523, [(1, 0x10)], 3, 0xFFFFFFFFFFFFFFF0, 0x2004), (0x40219563, [(1, 0x3)], 3, 0x0, 0x2004),
   (0x40220563, [(1, 0x2), (2, 0x9)], 3, 0xFFFFFFFFFFFFFFFF, 0x2004),
   (0x402205A3, [(1, 0x5), (2, 0x5)], 3, 0x1, 0x2004), (0x402205A3, [(1, 0x5), (2, 0x6)], 3, 0x0, 0x2004),
   (0x40220643, [(1, 0x3), (2, 0x3000)], 3, 0x3018, 0x2004), (0x40391643, [(1, 0x2)], 3, 0xD8, 0x2004),
   (0x40203763, [(1, 0x2)], 3, 0xF, 0x2004), (0x40213763, [(1, 0x1)], 3, 0xFFFFFFFFFFFFFFFF, 0x2004),
   (0x402207A3, [(1, 0x0), (2, 0x0)], 3, 0x1, 0x2004),
   (0x402207A3, [(1, 0x8000000000000000), (2, 0x7FFFFFFFFFFFFFFF)], 3, 0x0, 0x2004),
   (0x402209A3, [(1, 0xFFFFFFFFFFFFFFFF), (2, 0x0)], 3, 0x1, 0x2004),
   (0x402209A3, [(1, 0x3), (2, 0x3)], 3, 0x0, 0x2004),
   (0x40220DA3, [(1, 0x8000000000000000), (2, 0x7FFFFFFFFFFFFFFF)], 3, 0x1, 0x2004),
   (0x40220DA3, [(1, 0x7FFFFFFFFFFFFFFF), (2, 0x8000000000000000)], 3, 0x0, 0x2004)]

theorem test_arithmetic : AllGive arithmeticCases := by decide

def logicalCases : List Case :=
  [(0x443FF003, [(1, 0x1234)], 3, 0x34, 0x2004),
   (0x44220003, [(1, 0xFF00FF00FF00FF00), (2, 0xFF00FF00FF00FF0)], 3, 0xF000F000F000F00, 0x2004),
   (0x44220103, [(1, 0xFF00FF00FF00FF00), (2, 0xFF00FF00FF00FF0)], 3, 0xF000F000F000F000, 0x2004),
   (0x4420F103, [(1, 0x3005)], 3, 0x3000, 0x2004), (0x44220283, [(1, 0x3), (2, 0xABCD)], 3, 0xABCD, 0x2004),
   (0x44220283, [(1, 0x2), (2, 0xABCD), (3, 0x5555555555555555)], 3, 0x5555555555555555, 0x2004),
   (0x442202C3, [(1, 0x2), (2, 0xABCD)], 3, 0xABCD, 0x2004),
   (0x442202C3, [(1, 0x3), (2, 0xABCD), (3, 0x5555555555555555)], 3, 0x5555555555555555, 0x2004),
   (0x44283403, [(1, 0x0)], 3, 0x41, 0x2004),
   (0x44220403, [(1, 0xFF00FF00FF00FF00), (2, 0xFF00FF00FF00FF0)], 3, 0xFFF0FFF0FFF0FFF0, 0x2004),
   (0x44220483, [(1, 0x0), (2, 0xABCD)], 3, 0xABCD, 0x2004),
   (0x44220483, [(1, 0x1), (2, 0xABCD), (3, 0x5555555555555555)], 3, 0x5555555555555555, 0x2004),
   (0x442204C3, [(1, 0x8000000000000000), (2, 0xABCD)], 3, 0xABCD, 0x2004),
   (0x442204C3, [(1, 0x0), (2, 0xABCD), (3, 0x5555555555555555)], 3, 0x5555555555555555, 0x2004),
   (0x44220503, [(1, 0xFF00FF00FF00FF00), (2, 0xFF00FF00FF00FF0)], 3, 0xFF0FFF0FFF0FFF0F, 0x2004),
   (0x47FF0503, [], 3, 0xFFFFFFFFFFFFFFFF, 0x2004),
   (0x44220803, [(1, 0xFF00FF00FF00FF00), (2, 0xFF00FF00FF00FF0)], 3, 0xF0F0F0F0F0F0F0F0, 0x2004),
   (0x4421F803, [(1, 0xFF)], 3, 0xF0, 0x2004),
   (0x44220883, [(1, 0x8000000000000000), (2, 0xABCD)], 3, 0xABCD, 0x2004),
   (0x44220883, [(1, 0x0), (2, 0xABCD), (3, 0x5555555555555555)], 3, 0x5555555555555555, 0x2004),
   (0x442208C3, [(1, 0x0), (2, 0xABCD)], 3, 0xABCD, 0x2004),
   (0x442208C3, [(1, 0xFFFFFFFFFFFFFFFF), (2, 0xABCD), (3, 0x5555555555555555)], 3, 0x5555555555555555, 0x2004),
   (0x44220903, [(1, 0xFF00FF00FF00FF00), (2, 0xFF00FF00FF00FF0)], 3, 0xF0F0F0F0F0F0F0F, 0x2004),
   (0x4420B903, [(1, 0x5)], 3, 0xFFFFFFFFFFFFFFFF, 0x2004),
   (0x44220C83, [(1, 0x0), (2, 0xABCD)], 3, 0xABCD, 0x2004),
   (0x44220C83, [(1, 0x1), (2, 0xABCD), (3, 0x5555555555555555)], 3, 0x5555555555555555, 0x2004),
   (0x44220CC3, [(1, 0x1), (2, 0xABCD)], 3, 0xABCD, 0x2004),
   (0x44220CC3, [(1, 0x0), (2, 0xABCD), (3, 0x5555555555555555)], 3, 0x5555555555555555, 0x2004)]

theorem test_logical : AllGive logicalCases := by decide

def shiftsCases : List Case :=
  [(0x48203043, [(1, 0x8877665544332211)], 3, 0x8877665544330011, 0x2004),
   (0x48201043, [(1, 0x8877665544332211)], 3, 0x8877665544332200, 0x2004),
   (0x482030C3, [(1, 0x8877665544332211)], 3, 0x22, 0x2004),
   (0x482200C3, [(1, 0x8877665544332211), (2, 0xFFFFFFFFFFFFFFFA)], 3, 0x33, 0x2004),
   (0x48207163, [(1, 0xFFFFFFFFFFFFFFAB)], 3, 0xAB000000, 0x2004),
   (0x4820F163, [(1, 0x8877665544332211)], 3, 0x1100000000000000, 0x2004),
   (0x4820F243, [(1, 0x8877665544332211)], 3, 0x77665544332211, 0x2004),
   (0x4820B243, [(1, 0x8877665544332211)], 3, 0x8800005544332211, 0x2004),
   (0x482032C3, [(1, 0x8877665544332211)], 3, 0x3322, 0x2004),
   (0x4820B2C3, [(1, 0x8877665544332211)], 3, 0x7766, 0x2004),
   (0x48203363, [(1, 0x8877665544332211)], 3, 0x221100, 0x2004),
   (0x4820B363, [(1, 0x8877665544332211)], 3, 0x22110000000000, 0x2004),
   (0x4820F443, [(1, 0x8877665544332211)], 3, 0x77665544332211, 0x2004),
   (0x48201443, [(1, 0x8877665544332211)], 3, 0x8877665500000000, 0x2004),
   (0x482034C3, [(1, 0x8877665544332211)], 3, 0x55443322, 0x2004),
   (0x4820B4C3, [(1, 0x8877665544332211)], 3, 0x887766, 0x2004),
   (0x48203563, [(1, 0x8877665544332211)], 3, 0x4433221100, 0x2004),
   (0x4820B563, [(1, 0x8877665544332211)], 3, 0x3322110000000000, 0x2004),
   (0x48220603, [(1, 0x1122334455667788), (2, 0xFFFFFFFFFFFFFF01)], 3, 0x1122334455667700, 0x2004),
   (0x4821F603, [(1, 0x8877665544332211)], 3, 0x8877665500000000, 0x2004),
   (0x483FF623, [(1, 0x1122334455667788)], 3, 0x1122334455667788, 0x2004),
   (0x48303623, [(1, 0x8877665544332211)], 3, 0x8800000000000011, 0x2004),
   (0x4820F643, [(1, 0x8877665544332211)], 3, 0x77665544332211, 0x2004),
   (0x48201643, [(1, 0x8877665544332211)], 3, 0x0, 0x2004),
   (0x48220683, [(1, 0x8000000000000001), (2, 0x1)], 3, 0x4000000000000000, 0x2004),
   (0x48220683, [(1, 0x8000000000000001), (2, 0x40)], 3, 0x0, 0x2004),
   (0x482036C3, [(1, 0x8877665544332211)], 3, 0x88776655443322, 0x2004),
   (0x4820B6C3, [(1, 0x8877665544332211)], 3, 0x887766, 0x2004),
   (0x48220723, [(1, 0x8000000000000001), (2, 0x1)], 3, 0x2, 0x2004),
   (0x48220723, [(1, 0x8000000000000001), (2, 0x40)], 3, 0x0, 0x2004),
   (0x48203763, [(1, 0x8877665544332211)], 3, 0x7766554433221100, 0x2004),
   (0x4820B763, [(1, 0x8877665544332211)], 3, 0x3322110000000000, 0x2004),
   (0x48220783, [(1, 0x8000000000000001), (2, 0x1)], 3, 0xC000000000000000, 0x2004),
   (0x48220783, [(1, 0x8000000000000001), (2, 0x100000001)], 3, 0xFFFFFFFFFFFFFFFF, 0x2004),
   (0x48203A43, [(1, 0x8877665544332211)], 3, 0x8877665544332211, 0x2004),
   (0x4820FA43, [(1, 0x8877665544332211)], 3, 0x8877665544332200, 0x2004),
   (0x4820FAE3, [(1, 0x8877665544332211)], 3, 0x22, 0x2004),
   (0x4820BAE3, [(1, 0x8877665544332211)], 3, 0x0, 0x2004),
   (0x4820FB43, [(1, 0x8877665544332211)], 3, 0x1100, 0x2004),
   (0x48203B43, [(1, 0x8877665544332211)], 3, 0x0, 0x2004),
   (0x48203C43, [(1, 0x8877665544332211)], 3, 0x8877665544332211, 0x2004),
   (0x4820FC43, [(1, 0x8877665544332211)], 3, 0x8877665544000000, 0x2004),
   (0x4820FCE3, [(1, 0x8877665544332211)], 3, 0x443322, 0x2004),
   (0x48201CE3, [(1, 0x8877665544332211)], 3, 0x0, 0x2004),
   (0x4820FD43, [(1, 0x8877665544332211)], 3, 0x33221100, 0x2004),
   (0x4820BD43, [(1, 0x8877665544332211)], 3, 0x11000000, 0x2004),
   (0x48203E43, [(1, 0x8877665544332211)], 3, 0x8877665544332200, 0x2004),
   (0x4820BE43, [(1, 0x8877665544332211)], 3, 0x8877660000000000, 0x2004),
   (0x4820FEE3, [(1, 0x8877665544332211)], 3, 0x88776655443322, 0x2004),
   (0x48203EE3, [(1, 0x8877665544332211)], 3, 0x88, 0x2004),
   (0x4820FF43, [(1, 0x8877665544332211)], 3, 0x7766554433221100, 0x2004),
   (0x4820BF43, [(1, 0x8877665544332211)], 3, 0x5544332211000000, 0x2004)]

theorem test_shifts : AllGive shiftsCases := by decide

def multiplyCases : List Case :=
  [(0x4C220003, [(1, 0xFFFFFFFF), (2, 0xFFFFFFFF)], 3, 0x1, 0x2004),
   (0x4C220003, [(1, 0x7FFFFFFF), (2, 0x2)], 3, 0xFFFFFFFFFFFFFFFE, 0x2004),
   (0x4C221403, [(1, 0x123456789)], 3, 0x1234567890, 0x2004),
   (0x4C220403, [(1, 0xFFFFFFFFFFFFFFFF), (2, 0xFFFFFFFFFFFFFFFF)], 3, 0x1, 0x2004),
   (0x4C220603, [(1, 0xFFFFFFFFFFFFFFFF), (2, 0xFFFFFFFFFFFFFFFF)], 3, 0xFFFFFFFFFFFFFFFE, 0x2004),
   (0x4C220603, [(1, 0x100000000), (2, 0x100000000)], 3, 0x1, 0x2004)]

theorem test_multiply : AllGive multiplyCases := by decide

def extensionCases : List Case :=
  [(0x73E20003, [(2, 0x7F)], 3, 0x7F, 0x2004), (0x73E20003, [(2, 0x80)], 3, 0xFFFFFFFFFFFFFF80, 0x2004),
   (0x73E20023, [(2, 0xABCD1234)], 3, 0x1234, 0x2004), (0x73E20023, [(2, 0x7FFF)], 3, 0x7FFF, 0x2004)]

theorem test_extension : AllGive extensionCases := by decide

/-- A word, the value of register 1, an address and the quadword there after one step; register 2 holds 0x2000. -/
def storesCases : List (InstrWord × Word × Nat × Nat) :=
  [(0x38220010, 0x1122334455667788, 0x2010, 0x0807060504030288),
   (0x34220011, 0x1122334455667788, 0x2010, 0x0807060504778801),
   (0xB0220014, 0x1122334455667788, 0x2010, 0x5566778804030201),
   (0xB4220013, 0x1122334455667788, 0x2010, 0x4455667788030201),
   (0x3C22001D, 0x1122334455667788, 0x2018, 0x1122334455667788)]

theorem test_stores : ∀ c ∈ storesCases,
    after (start c.1 [(1, c.2.1), (2, 0x2000)]) (fun t => (t.mem.readLE c.2.2.1 8, t.pc, t.status, t.out)) =
      some (c.2.2.2, 0x2004#64, .running, []) := by decide

/-- Example E4: a one-byte store to `OUTPUT_ADDR` appends to `out` and changes no memory byte. -/
theorem test_output : after (start 0x38220000 [(1, 0x1122334455667788), (2, 0x10000000)])
    (fun t => (t.out, t.mem == (start 0x38220000 []).mem, t.status)) = some ([0x88], true, .running) := by decide

/-- A word, register 2, and the record of the fault its step raises. -/
def faultsCases : List (InstrWord × Word × FaultRecord) :=
  [(0xA4220019, 0x2000, .addressError 0x2000#64 0x2019#64),
   (0x3822FFFF, 0x10000000, .addressError 0x2000#64 0x0FFFFFFF#64),
   (0x34220000, 0x10000000, .addressError 0x2000#64 0x10000000#64),
   (0xAC3F0000, 0, .unimplementedOpcode 0x2000#64 .ldqL 0xAC3F0000#32),
   (0x88220010, 0x2000, .unimplementedOpcode 0x2000#64 .lds 0x88220010#32),
   (0x8C220008, 0x2000, .unimplementedOpcode 0x2000#64 .ldt 0x8C220008#32),
   (0x00000083, 0, .unimplementedOpcode 0x2000#64 .callPal 0x00000083#32),
   (0x40220803, 0, .unimplementedOpcode 0x2000#64 .addlV 0x40220803#32),
   (0x63FF4000, 0, .unimplementedOpcode 0x2000#64 .mb 0x63FF4000#32),
   (0x5822B403, 0, .unimplementedOpcode 0x2000#64 .addt 0x5822B403#32),
   (0x4800001F, 0, .unimplementedOpcode 0x2000#64 .unknown 0x4800001F#32)]

theorem test_faults : ∀ c ∈ faultsCases,
    after (start c.1 [(2, c.2.1)]) (fun t => (t.status, t.pc, t.regs == (start c.1 [(2, c.2.1)]).regs, t.out)) =
      some (.faulted c.2.2, 0x2004#64, true, []) := by decide

/-- The state `nop` starts from. -/
def s0 : State := start 0x47FF041F []

/-- Example E2: SENTINEL halts. Rows S2 and S3 and example E3: the pc check. -/
theorem test_halt : after (s0.setPc 0x08000000#64) (fun t => (t.status, t.pc)) = some (.halted, 0x08000000#64) := by
  decide
theorem test_pc_check : ∀ n ∈ [0x2002, 0x1FFC, 0x2004],
    after (s0.setPc (BitVec.ofNat 64 n)) (fun t => (t.status, t.pc)) =
      some (.faulted (.invalidProgramCounter (BitVec.ofNat 64 n)), BitVec.ofNat 64 n) := by decide

/-- A state whose text segment is longer than its image, as in row S5. -/
def s5 : State := { s0 with cfg := { s0.cfg with textSize := 0x40 }, pc := 0x2020#64 }

/-- Row S5: a fetch outside the image. -/
theorem test_fetch_fault : after s5 (fun t => (t.status, t.pc)) =
    some (.faulted (.addressError 0x2020#64 0x2020#64), 0x2020#64) := by decide

/-- The word placed for the fetch is the one that runs, right after reset. -/
theorem test_withFetchWord : after (State.reset.withFetchWord 32 0x47E83402) (fun t => (t.reg 2, t.pc, t.status)) =
    some (0x41#64, 0x2004#64, .running) := by decide

/-! ### 4. What meets the hypotheses of each statement -/

/-- Three segments: the second overlaps the first and a gap stands before the third. -/
def loader : LoaderInput where
  entry := 0x2000#64
  segments := [⟨0x2000#64, [1, 2, 3, 4]⟩, ⟨0x2002#64, [9, 9]⟩, ⟨0x2010#64, [5]⟩]
  textAddress := 0x2000#64
  textSize := 4
  stackStart := 0x07F00000

theorem witness_ResetState : s0.cfg.Valid ∧ ∀ c ∈ s0.cfg.imageInit, s0.cfg.loadStart ≤ c.1 ∧ c.1 < s0.cfg.loadEnd := by
  decide

/-- The last clause has its first and last byte of a segment, and 0x2001, which the second segment leaves. -/
theorem witness_LoaderImage : loader.segments ≠ [] ∧ (∀ g ∈ loader.segments, g.fileBytes ≠ []) ∧
    (∀ g ∈ loader.segments, 0x2004 < g.virtualAddress.toNat ∨ g.virtualAddress.toNat + g.fileBytes.length ≤ 0x2004) ∧
    (∀ i ∈ [0, 1], ∀ g ∈ loader.segments.tail,
      0x2000 + i < g.virtualAddress.toNat ∨ g.virtualAddress.toNat + g.fileBytes.length ≤ 0x2000 + i) := by decide

theorem test_loader : (loader.config.map fun c => (c.loadStart, c.loadEnd, [0x2001, 0x2002, 0x2004, 0x2010].map
    (Memory.read c.imageInit))) = some (0x2000, 0x2011, [2, 9, 0, 5]) := by decide

theorem witness_InvariantAtReset : Memory.wf s0.cfg.imageInit = true ∧
    ∀ c ∈ s0.cfg.imageInit, s0.cfg.loadStart ≤ c.1 ∧ c.1 < s0.cfg.loadEnd := by decide

theorem witness_InvariantKept : s0.Inv ∧ ∃ t, step s0 = .next t :=
  ⟨⟨by decide, by decide, by decide⟩, by
    obtain ⟨t, h, _⟩ := exists_next (s := s0) (view := State.pc) (x := 0x2004#64) (by decide); exact ⟨t, h⟩⟩

/-- The widths of an access, the last address at which it fits the image and the last at which it fits the stack. -/
def lastFits : List (Nat × Word × Word) :=
  [(1, 0x201F, 0x07FFFFFF), (2, 0x201E, 0x07FFFFFE), (4, 0x201C, 0x07FFFFFC), (8, 0x2018, 0x07FFFFF8)]

/-- Each access fits at the last address and not one byte on; at the ends of the regions below, it fits at the first
address and not one byte before. -/
theorem witness_MemReadRule : ∀ c ∈ lastFits, c.1 ∈ [1, 2, 4, 8] ∧
    s0.cfg.FitsImage c.2.1.toNat c.1 ∧ ¬ s0.cfg.Fits (c.2.1 + 1).toNat c.1 ∧
    s0.cfg.FitsStack c.2.2.toNat c.1 ∧ ¬ s0.cfg.Fits (c.2.2 + 1).toNat c.1 ∧
    s0.cfg.FitsImage 0x2000 c.1 ∧ ¬ s0.cfg.Fits 0x1FFF c.1 ∧
    s0.cfg.FitsStack 0x07F00000 c.1 ∧ ¬ s0.cfg.Fits 0x07EFFFFF c.1 := by decide

/-- A state whose image region holds the output port. -/
def sPort : State := { s0 with cfg := { s0.cfg with loadStart := 0x0FFFFFFF, loadEnd := 0x10000008 } }

/-- The port takes one byte; two bytes there, or one beside it, are ordinary, whether or not they fit. -/
theorem witness_MemWriteRule :
    (1 = 1 ∧ outputAddr = 0x10000000#64) ∧ ¬ s0.cfg.Fits 0x10000000 2 ∧ ¬ s0.cfg.Fits 0x10000001 1 ∧
    ¬ s0.cfg.Fits 0x0FFFFFFF 1 ∧ sPort.cfg.Fits 0x10000000 2 ∧ sPort.cfg.Fits 0x0FFFFFFF 1 ∧
    sPort.cfg.Fits 0x10000000 8 ∧ ∀ n ∈ [1, 2, 4, 8], n ∈ [1, 2, 4, 8] := by decide

theorem witness_WrapAndStraddle : s0.cfg.Valid ∧
    2 ^ 64 < (0xFFFFFFFFFFFFFFFF#64).toNat + 2 ∧ 2 ^ 64 < (0xFFFFFFFFFFFFFFF9#64).toNat + 8 ∧
    (s0.cfg.loadStart ≤ 0x201F ∧ 0x201F < s0.cfg.loadEnd ∧ s0.cfg.loadEnd < 0x201F + 2) ∧
    (s0.cfg.loadStart ≤ 0x2019 ∧ 0x2019 < s0.cfg.loadEnd ∧ s0.cfg.loadEnd < 0x2019 + 8) ∧
    (s0.cfg.stackStart ≤ 0x07FFFFFF ∧ 0x07FFFFFF < s0.cfg.stackEnd ∧ s0.cfg.stackEnd < 0x07FFFFFF + 2) := by
  decide

/-- The quadword at the end of the image: its last byte is that of `k` = 7. -/
theorem witness_MixedWidthReads : s0.cfg.Valid ∧
    (s0.memWrite 0x2018 8 0x1122334455667788).isSome = true ∧ 7 < 8 ∧ 3 < 4 := by decide

theorem witness_CanonicalMemory : Memory.wf [(0x2000, 1), (0x2001, 2)] = true := by decide

theorem witness_OperandTwo : (0x40220003#32).getLsbD 12 = false ∧ (0x40391003#32).getLsbD 12 = true := by decide

/-- Each test of the conditional moves and branches holds of one boundary value and fails of another. -/
theorem witness_ConditionalMoves :
    ((0#64).toNat = 0 ∧ ¬ (1#64).toNat = 0) ∧ ((1#64).toNat ≠ 0 ∧ ¬ (0#64).toNat ≠ 0) ∧
    ((0xFFFFFFFFFFFFFFFF#64).toInt < 0 ∧ ¬ (0#64).toInt < 0) ∧
    (0 ≤ (0#64).toInt ∧ ¬ 0 ≤ (0x8000000000000000#64).toInt) ∧
    ((0#64).toInt ≤ 0 ∧ ¬ (1#64).toInt ≤ 0) ∧ (0 < (1#64).toInt ∧ ¬ 0 < (0#64).toInt) ∧
    ((1#64).toNat % 2 = 1 ∧ ¬ (0#64).toNat % 2 = 1) ∧ ((0#64).toNat % 2 = 0 ∧ ¬ (1#64).toNat % 2 = 0) := by decide

theorem witness_ConditionalBranches :
    ((s0.reg 1).toNat = 0 ∧ (s0.reg 26).toNat ≠ 0) ∧ ((s0.reg 1).toInt ≤ 0 ∧ 0 < (s0.reg 26).toInt) ∧
    ((start 0 [(2, 0xFFFFFFFFFFFFFFFF)]).reg 2).toInt < 0 ∧
    ((start 0 [(2, 0xFFFFFFFFFFFFFFFF)]).reg 2).toNat % 2 = 1 ∧ (s0.reg 1).toNat % 2 = 0 := by decide

/-- The count as operand 2: the literals 63 and 64. -/
theorem witness_Shifts : (s0.operand2 (.lit 63)).toNat < 64 ∧ ¬ (s0.operand2 (.lit 64)).toNat < 64 := by decide

theorem witness_OperateDestination31 : ∀ i ∈ [Instr.addq 1#5 (.reg 2#5 0#3) 31#5, .cmoveq 1#5 (.lit 5) 31#5,
    .sll 1#5 (.lit 5) 31#5, .sextb 31#5 (.lit 5) 31#5, .umulh 1#5 (.lit 5) 31#5],
    i.opcode ∈ executedArith ++ executedLogical ++ executedShift ∧ (encode i).extractLsb' 0 5 = 31#5 := by decide

/-- With register 2 at 0x2000: the effective addresses of the displacements below, where each width fits and does not;
a quadword address is aligned down first, so that 0x201F fits and 0x2020 does not. -/
theorem witness_Loads :
    let s := start 0 [(2, 0x2000)]
    let ea := s.effAddr 2
    (31#5 = 31#5 ∧ 1#5 ≠ 31#5) ∧
    s.cfg.Fits (ea 0x1F).toNat 1 ∧ ¬ s.cfg.Fits (ea 0x20).toNat 1 ∧
    s.cfg.Fits (ea 0x1E).toNat 2 ∧ ¬ s.cfg.Fits (ea 0x1F).toNat 2 ∧
    s.cfg.Fits (ea 0x1C).toNat 4 ∧ ¬ s.cfg.Fits (ea 0x1D).toNat 4 ∧
    s.cfg.Fits (ea 0x18).toNat 8 ∧ ¬ s.cfg.Fits (ea 0x19).toNat 8 ∧
    s.cfg.Fits (alignQuad (ea 0x1F)).toNat 8 ∧ ¬ s.cfg.Fits (alignQuad (ea 0x20)).toNat 8 := by decide

theorem witness_LoadsToRegister31 : Instr.ldq 31#5 31#5 0 ∈
    [Instr.ldbu 31#5 31#5 0, .ldwu 31#5 31#5 0, .ldl 31#5 31#5 0, .ldq 31#5 31#5 0, .ldqU 31#5 31#5 0,
      .lds 31#5 31#5 0, .ldt 31#5 31#5 0, .lda 31#5 31#5 0, .ldah 31#5 31#5 0] := by decide

/-- The output port: one byte at it, other widths at it, one byte beside it. -/
theorem witness_Stores_port :
    let s := start 0 [(3, 0x10000000)]
    (1 = 1 ∧ s.effAddr 3 0 = outputAddr) ∧
    (¬ (1 = 1 ∧ s.effAddr 3 1 = outputAddr) ∧ ¬ s.cfg.Fits (s.effAddr 3 1).toNat 1) ∧
    (¬ (2 = 1 ∧ s.effAddr 3 0 = outputAddr) ∧ ¬ s.cfg.Fits (s.effAddr 3 0).toNat 2) ∧
    (¬ (8 = 1 ∧ alignQuad (s.effAddr 3 7) = outputAddr) ∧ ¬ s.cfg.Fits (alignQuad (s.effAddr 3 7)).toNat 8) := by
  decide

/-- Away from the port the addresses of `witness_Loads` serve. -/
theorem witness_Stores :
    let s := start 0 [(2, 0x2000)]
    let ea := s.effAddr 2
    (¬ (1 = 1 ∧ ea 0x1F = outputAddr) ∧ s.cfg.Fits (ea 0x1F).toNat 1) ∧
    (¬ (1 = 1 ∧ ea 0x20 = outputAddr) ∧ ¬ s.cfg.Fits (ea 0x20).toNat 1) ∧
    (¬ (8 = 1 ∧ ea 0x18 = outputAddr) ∧ s.cfg.Fits (ea 0x18).toNat 8) ∧
    (¬ (8 = 1 ∧ ea 0x19 = outputAddr) ∧ ¬ s.cfg.Fits (ea 0x19).toNat 8) := by decide

theorem witness_PrefetchFloatLoads : (31#5 : Reg) = 31#5 ∧ (1#5 : Reg) ≠ 31#5 := by decide

/-- An instruction and a word of each of the four groups of decode-only Opcodes. -/
theorem witness_DecodeOnlyMemory : (Instr.ldqL 1#5 2#5 0).opcode ∈ [Opcode.ldlL, .ldqL] ∧
    (decode 0xAC220010#32).opcode ∈ [Opcode.ldlL, .ldqL] := by decide
theorem witness_FloatBranches : (Instr.fbeq 1#5 4).opcode ∈ [Opcode.fbeq] ∧
    (decode 0xC4200004#32).opcode ∈ [Opcode.fbeq] := by decide
theorem witness_DecodeOnlyOperate : (Instr.addlV 1#5 (.lit 2) 3#5).opcode ∈ [Opcode.addlV] ∧
    (decode 0x40220803#32).opcode ∈ [Opcode.addlV] := by decide
theorem witness_DecodeOnlyFormats : (Instr.callPal 0x83).opcode ∈ [Opcode.callPal, .unknown] ∧
    (decode 0x00000083#32).opcode ∈ [Opcode.callPal, .unknown] ∧
    (decode 0x5800FFE0#32).opcode ∈ [Opcode.callPal, .unknown] := by decide

theorem witness_BranchTargetsAligned : s0.pc.toNat % 4 = 0 ∧ (s0.setPc 0xFFFFFFFFFFFFFFFC#64).pc.toNat % 4 = 0 := by
  decide

/-- Registers 26 and 30 hold SENTINEL at reset (R38). -/
theorem witness_JumpToSentinelHalts : s0.cfg.Valid ∧ s0.status = .running ∧ s0.reg 26 = s0.cfg.sentinel := by decide

theorem witness_ExecutedSet : s0.status = .running ∧ (Instr.lds 31#5 2#5 0).executes = true ∧
    (Instr.lds 30#5 2#5 0).executes = false := by decide

/-- An instruction of the executed set that cannot fault, and one that does. -/
theorem witness_FaultFreeInstructions : (Instr.bis 1#5 (.lit 2) 3#5).executes = true ∧
    (Instr.ldq 1#5 31#5 0).executes = true ∧ (Instr.ldq 1#5 31#5 0).opcode ∈ loadOpcodes ++ storeOpcodes := by decide

theorem witness_StepRunsDecodedInstruction : s0.cfg.Valid ∧ s0.status = .running ∧ s0.pc ≠ s0.cfg.sentinel ∧
    s0.pc.toNat % 4 = 0 ∧ s0.cfg.InText s0.pc ∧ s0.cfg.Fits s0.pc.toNat 4 ∧
    (∀ k < 4, s0.mem.read (s0.pc.toNat + k) = (0x47FF041F#32).extractLsb' (8 * k) 8) ∧
    decode 0x47FF041F#32 = .bis 31#5 (.reg 31#5 0#3) 31#5 := by decide

/-- SENTINEL; an unaligned pc inside the text; the aligned pcs just outside the text. -/
theorem witness_HaltTestAndPcCheck : s0.cfg.Valid ∧ s0.status = .running ∧
    (s0.setPc 0x08000000#64).pc = s0.cfg.sentinel ∧
    (∀ n ∈ [0x2001, 0x2002, 0x2003], BitVec.ofNat 64 n ≠ s0.cfg.sentinel ∧ (BitVec.ofNat 64 n).toNat % 4 ≠ 0) ∧
    (∀ n ∈ [0x1FFC, 0x2004], BitVec.ofNat 64 n ≠ s0.cfg.sentinel ∧ (BitVec.ofNat 64 n).toNat % 4 = 0 ∧
      ¬ (s0.cfg.textStart ≤ n ∧ n + 4 ≤ s0.cfg.textStart + s0.cfg.textSize)) := by decide

theorem witness_FetchAddressError : s5.cfg.Valid ∧ s5.status = .running ∧ s5.pc ≠ s5.cfg.sentinel ∧
    s5.pc.toNat % 4 = 0 ∧ s5.cfg.InText s5.pc ∧ ¬ s5.cfg.Fits s5.pc.toNat 4 := by decide

theorem witness_RunEnds : s0.cfg.Valid ∧ s0.status = .running ∧ s0.halt.status = .halted ∧
    (s0.raise (.invalidProgramCounter 0)).status = .faulted (.invalidProgramCounter 0) := by decide

/-- Each constraint broken by the least amount. -/
theorem witness_BadConfigurationRefused :
    let c := s0.cfg
    { c with loadEnd := 0x2000 }.loadEnd ≤ c.loadStart ∧
    2 ^ 64 < { c with loadEnd := 2 ^ 64 + 1 }.loadEnd ∧
    2 ^ 64 ≤ { c with stackStart := 2 ^ 64 - 0x100000 }.stackStart + 0x100000 ∧
    ({ c with stackStart := 0x201F }.stackStart < c.loadEnd ∧ c.loadStart < 0x201F + 0x100000) := by decide

theorem witness_HaltOnlyAtSentinel : (∃ t, step s0 = .next t ∧ t.status = .running) ∧
    ∃ t, step (s0.setPc 0x08000000#64) = .next t ∧ t.status = .halted :=
  ⟨exists_next (by decide), exists_next (by decide)⟩

/-- One state for each cause, and a fetch that does not fit. -/
theorem witness_FaultsArePrecise :
    (∃ t, step (s0.setPc 0x2004#64) = .next t ∧ t.status = .faulted (.invalidProgramCounter 0x2004#64)) ∧
    (∃ t, step (start 0xA43F0000 []) = .next t ∧ t.status = .faulted (.addressError 0x2000#64 0#64)) ∧
    (∃ t, step s5 = .next t ∧ t.status = .faulted (.addressError 0x2020#64 0x2020#64)) ∧
    ∃ t, step (start 0x00000083 []) = .next t ∧
      t.status = .faulted (.unimplementedOpcode 0x2000#64 .callPal 0x00000083#32) :=
  ⟨exists_next (by decide), exists_next (by decide), exists_next (by decide), exists_next (by decide)⟩

theorem witness_OneEffectPerInstruction : (Instr.bis 1#5 (.lit 2) 3#5).opcode ∉ storeOpcodes ∧
    (Instr.stb 1#5 2#5 0).opcode ∈ storeOpcodes ∧ (Instr.stb 1#5 2#5 0).opcode ∉ executedBranch := by decide

/-- A step that leaves the output and one that adds to it. -/
theorem witness_OutputOnlyGrows : (∃ t, step s0 = .next t ∧ t.out = s0.out) ∧
    ∃ t, step (start 0x38220000 [(1, 0x41), (2, 0x10000000)]) = .next t ∧ t.out = [0x41] :=
  ⟨exists_next (by decide), exists_next (by decide)⟩

theorem witness_MemoryChangesOnlyByStores :
    ∃ t, step (start 0x38220010 [(1, 0x41), (2, 0x2000)]) = .next t ∧
      (t.mem.read 0x2010, (start 0x38220010 [(1, 0x41), (2, 0x2000)]).mem.read 0x2010) = (0x41#8, 0x01#8) :=
  exists_next (by decide)

theorem witness_FetchSeesStores :
    let s := start 0x47FF041F [(1, 0x47E83402), (2, 0x2000)]
    s.cfg.Valid ∧ s.status = .running ∧ s.pc ≠ s.cfg.sentinel ∧ s.pc.toNat % 4 = 0 ∧ s.cfg.InText s.pc ∧
      s.cfg.Fits s.pc.toNat 4 ∧ s.effAddr 2 0 = s.pc := by decide

/-- Pairs of words that differ in all ignored bits of a primary opcode, each with whether it is executed: an Operate
word, `sextb` in both forms, a jump, decode-only and unallocated Operate words, `mb`, a floating word, an unallocated
one, `call_pal` and a placeholder. -/
def ignoredPairs : List (InstrWord × InstrWord × Bool) :=
  [(0x40220003, 0x4022E003, true), (0x73E20003, 0x7002E003, true), (0x73E05003, 0x70005003, true),
   (0x6B5B4000, 0x6B5B7FFF, true), (0x40220803, 0x4022E803, false), (0x40000FE3, 0x4000EFE3, false),
   (0x63FF4000, 0x60004000, false), (0x58221403, 0x5BDD141C, false), (0x5800FFE0, 0x5BFFFFFF, false),
   (0x00000083, 0x03FFFF7C, false), (0x04155555, 0x07EAAAAA, false)]

/-- Each pair agrees outside the ignored bits, and on no bit of them. -/
theorem witness_IgnoredBits : (ignoredPairs.all fun p =>
    p.1 &&& ~~~ignoredBits p.1 == p.2.1 &&& ~~~ignoredBits p.1 && p.1 ^^^ p.2.1 == ignoredBits p.1 &&
      (decode p.1).executes == p.2.2) = true := by decide

/-- Jumps that differ in the hint and in all of `jdisp`. -/
theorem witness_IgnoredBits_hint : (0x6B5B0123#32).extractLsb' 26 6 = 0x1A#6 ∧
    (0x6B5B0123#32).extractLsb' 16 16 = (0x6B5BFEDC#32).extractLsb' 16 16 := by decide

/-- Every primary opcode is that of a word. -/
theorem witness_FormatTable : ∀ n < 64, ((BitVec.ofNat 32 (n * 2 ^ 26)).extractLsb' 26 6).toNat = n := by decide

theorem witness_DecodeOfEncode : (Instr.addt 1#5 2#5 0x5A0#11 3#5).wellFormed = true ∧
    (Instr.unknown 0x5800FFE0#32).wellFormed = true ∧ (Instr.lda 1#5 2#5 0xFFFF#16).wellFormed = true := by decide

/-- An unaligned and an aligned quadword; the last address whose quadword does not wrap. -/
theorem witness_UnalignedLoad : (3#5 : Reg) ≠ 31#5 ∧ 0xFFFFFFFFFFFFFFF8 + 7 < 2 ^ 64 ∧
    (∀ a ∈ [0x2010, 0x2011, 0x2018],
      let s := start 0 [(1, BitVec.ofNat 64 (s0.bytesAt (a / 8 * 8) 8)),
        (2, BitVec.ofNat 64 (s0.bytesAt ((a + 7) / 8 * 8) 8)), (4, BitVec.ofNat 64 a)]
      a + 7 < 2 ^ 64 ∧ (s.operand2 (.reg 4 0)).toNat = a ∧
        (s.reg 1).toNat = s.bytesAt (a / 8 * 8) 8 ∧ (s.reg 2).toNat = s.bytesAt ((a + 7) / 8 * 8) 8) := by decide

end Sys2Proof
end

section
/-! PROOFS. The refusal of a configuration that breaks a constraint (R4 of spec/00_scope.md, R453 of
spec/70_reset_and_hazards.md). -/

namespace Sys2Proof

/-- The stack end with `STACK_SIZE` as a numeral, as the statements write it (R4). -/
theorem Config.stackEnd_eq (c : Config) : c.stackEnd = c.stackStart + 0x100000 := rfl

/-- The ways of breaking R4: an empty image, an image or a stack that ends too high, regions that overlap. They are
all the ways there are. -/
theorem Config.not_valid_iff (c : Config) :
    ¬ c.Valid ↔ c.loadEnd ≤ c.loadStart ∨ 2 ^ 64 < c.loadEnd ∨ 2 ^ 64 ≤ c.stackEnd ∨
      (c.stackStart < c.loadEnd ∧ c.loadStart < c.stackEnd) := by
  simp only [Config.Valid, not_and_or, not_or, not_lt, not_le]

namespace Machine

/-- The one refusal of the machine (log entry 3): it comes before the run status is looked at. -/
theorem step_of_not_valid (s : State) (h : ¬ s.cfg.Valid) : step s = .refused .badConfiguration := if_neg h

/-- Settles O46: the hypothesis lists the ways a configuration fails to be valid. -/
theorem badConfigurationRefused : Obligations.BadConfigurationRefused := by
  intro s broken
  rw [← Config.stackEnd_eq] at broken
  exact step_of_not_valid s (s.cfg.not_valid_iff.mpr broken)

end Machine

end Sys2Proof
end

section
/-! PROOFS. The state at reset (R38 of spec/10_state.md, R450 of 70_reset_and_hazards.md), the canonical form of memory
(log entry 5), the invariant of the state, and what a step can do to memory and output (R32, R33, R51). -/

namespace Sys2Proof

/-! ### The regions -/

/-- A byte of a span that fits fits by itself. -/
theorem Config.Fits.byte {c : Config} {a n k : Nat} (h : c.Fits a n) (hl : a ≤ k) (hu : k < a + n) : c.Fits k 1 := by
  obtain ⟨hs, he⟩ | ⟨hs, he⟩ := h
  · exact .inl ⟨by omega, by omega⟩
  · exact .inr ⟨by omega, by omega⟩

/-- The sentinel of a valid configuration is the end of the stack itself, not only its low 64 bits. -/
theorem Config.Valid.toNat_sentinel {c : Config} (h : c.Valid) : c.sentinel.toNat = c.stackEnd := by
  obtain ⟨-, -, hstack, -⟩ := h
  rw [Config.sentinel, BitVec.toNat_ofNat, Nat.mod_eq_of_lt hstack]

namespace Machine

/-! ### Canonical memories -/

theorem Memory.read_of_notListed (m : Memory) (a : Nat) (h : ∀ c ∈ m, c.1 ≠ a) : m.read a = unlisted := by
  induction m with
  | nil => rfl
  | cons c m ih =>
    rw [List.forall_mem_cons] at h
    rw [Memory.read, if_neg h.1, ih h.2]

theorem Memory.read_cons_self (k : Nat) (b : Byte) (m : Memory) : Memory.read ((k, b) :: m) k = b := if_pos rfl

theorem Memory.read_cons_ne {k a : Nat} (b : Byte) (m : Memory) (h : k ≠ a) :
    Memory.read ((k, b) :: m) a = m.read a := if_neg h

/-- The first entry of a canonical memory reads other than every memory whose addresses all lie above it: this is
what tells two canonical memories apart. -/
theorem Memory.read_head_ne {k : Nat} {b : Byte} {m m' : Memory} (hb : b ≠ unlisted) (h : ∀ c ∈ m', k < c.1) :
    Memory.read ((k, b) :: m) k ≠ m'.read k := by
  rw [Memory.read_cons_self, Memory.read_of_notListed m' k fun c hc => (h c hc).ne']
  exact hb

/-- Canonical memories with the same first address that read alike have the same first byte and tails that read
alike. -/
theorem Memory.read_tail {k : Nat} {b b' : Byte} {m m' : Memory} (hm : ∀ c ∈ m, k < c.1) (hm' : ∀ c ∈ m', k < c.1)
    (h : ∀ a, Memory.read ((k, b) :: m) a = Memory.read ((k, b') :: m') a) (a : Nat) : m.read a = m'.read a := by
  by_cases ha : k = a
  · subst ha
    rw [Memory.read_of_notListed m k fun c hc => (hm c hc).ne',
      Memory.read_of_notListed m' k fun c hc => (hm' c hc).ne']
  · simpa only [Memory.read_cons_ne _ _ ha] using h a

/-- Settles O9, by induction on the first list: the lists must begin with the same address, because the lower of two
different first addresses is listed in one of them only. -/
theorem canonicalMemory : Obligations.CanonicalMemory := by
  intro m
  induction m with
  | nil =>
    rintro (_ | ⟨⟨k', b'⟩, m'⟩) - hwf' hread
    · rfl
    · obtain ⟨hb', -, -⟩ := (Memory.wf_cons k' b' m').1 hwf'
      exact absurd (hread k').symm (Memory.read_head_ne hb' (by simp))
  | cons c m ih =>
    obtain ⟨k, b⟩ := c
    intro m' hwf hwf' hread
    obtain ⟨hb, hm, hwfm⟩ := (Memory.wf_cons k b m).1 hwf
    cases m' with
    | nil => exact absurd (hread k) (Memory.read_head_ne hb (by simp))
    | cons c' m' =>
      obtain ⟨k', b'⟩ := c'
      obtain ⟨hb', hm', hwfm'⟩ := (Memory.wf_cons k' b' m').1 hwf'
      obtain hlt | rfl | hgt := Nat.lt_trichotomy k k'
      · refine absurd (hread k) (Memory.read_head_ne hb ?_)
        exact List.forall_mem_cons.2 ⟨hlt, fun c hc => hlt.trans (hm' c hc)⟩
      · have hbyte : b = b' := by simpa only [Memory.read_cons_self] using hread k
        rw [hbyte, ih m' hwfm hwfm' (Memory.read_tail hm hm' hread)]
      · refine absurd (hread k').symm (Memory.read_head_ne hb' ?_)
        exact List.forall_mem_cons.2 ⟨hgt, fun c hc => hgt.trans (hm c hc)⟩

/-! ### Reset -/

/-- The registers after reset: the two that hold the end of the stack, and the rest (R38). -/
theorem State.reg_ofConfig (cfg : Config) (r : Reg) :
    (State.ofConfig cfg).reg r = if r = 26#5 ∨ r = 30#5 then cfg.sentinel else 0#64 := by
  by_cases h31 : r = 31#5
  · rw [h31, State.reg_zero, if_neg (by decide)]
  · have h26 : 26 = r.toNat ↔ r = 26#5 := by rw [BitVec.toNat_eq]; exact eq_comm
    have h30 : 30 = r.toNat ↔ r = 30#5 := by rw [BitVec.toNat_eq]; exact eq_comm
    simp only [State.reg, if_neg h31, State.ofConfig, Vector.getElem_set, Vector.getElem_replicate, h26, h30,
      or_comm (a := r = 26#5), ite_or]

/-- Settles O1: the stack bytes are 0 because no initial image byte lies in the stack region. -/
theorem resetState : Obligations.ResetState := by
  intro cfg hv himage
  refine ⟨fun r => ?_, rfl, fun a => rfl, fun a hlo hhi => ?_, rfl, rfl, rfl⟩
  · rw [State.reg_ofConfig, apply_ite BitVec.toNat, hv.toNat_sentinel]
    rfl
  · obtain ⟨-, -, -, hdisjoint⟩ := hv
    refine Memory.read_of_notListed _ a fun c hc => ?_
    have hregion := himage c hc
    omega

theorem State.Inv.ofConfig {cfg : Config} (hwf : Memory.wf cfg.imageInit = true)
    (himage : ∀ c ∈ cfg.imageInit, cfg.loadStart ≤ c.1 ∧ c.1 < cfg.loadEnd) : (State.ofConfig cfg).Inv where
  canonical := hwf
  placed c hc := .inl (himage c hc)
  zero := rfl

/-- Settles O3: the reset of the model is the case of a configuration with no initial image byte. -/
theorem invariantAtReset : Obligations.InvariantAtReset :=
  ⟨fun _ => State.Inv.ofConfig, State.Inv.ofConfig rfl (fun _ hc => absurd hc List.not_mem_nil), by decide⟩

/-! ### What an instruction and a step do to memory and output -/

/-- Memory, output, configuration and slot 31 of the register file are as before. -/
structure State.KeepsMemory (s t : State) : Prop where
  config : t.cfg = s.cfg
  memory : t.mem = s.mem
  output : t.out = s.out
  slot31 : t.regs[31] = s.regs[31]

/-- An instruction keeps memory and output, or it is a store of which `MemWrite` answers. -/
theorem Effect.memory_cases {i : Instr} {s t : State} (h : Effect i s (.next t)) :
    s.KeepsMemory t ∨ (i.opcode ∈ storeOpcodes ∧ ∃ n ra ea, s.memWrite ea n (s.reg ra) = some t ∧
      (n = 1 → ∃ rb disp, i = .stb ra rb disp ∧ ea = s.effAddr rb disp)) := by
  cases h with
  | nothing => exact .inl ⟨rfl, rfl, rfl, rfl⟩
  | register _ r v => exact .inl ⟨by simp, by simp, by simp, by simp⟩
  | jump _ p => exact .inl ⟨rfl, rfl, rfl, rfl⟩
  | link _ r p => exact .inl ⟨by simp, by simp, by simp, by simp⟩
  | memory hs n ra ea hb _ hw => exact .inr ⟨hs, n, ra, ea, hw, hb⟩
  | address _ ea => exact .inl ⟨rfl, rfl, rfl, rfl⟩
  | opcode => exact .inl ⟨rfl, rfl, rfl, rfl⟩

/-- Everything a step can do to memory and output: nothing, append the low byte of a register by an `stb` at the
output port, or write a span that fits by a store (R51, R60, R61). -/
theorem step_memory_cases {s t : State} (h : step s = .next t) :
    s.KeepsMemory t ∨
    (∃ ra rb disp, s.begin = .run (.stb ra rb disp) ∧ s.effAddr rb disp = outputAddr ∧
      t = s.advance.emit ((s.reg ra).extractLsb' 0 8)) ∨
    (∃ i a n v, s.begin = .run i ∧ i.opcode ∈ storeOpcodes ∧ s.cfg.Fits a n ∧
      t = { s.advance with mem := s.mem.writeLE a n v }) := by
  obtain ⟨-, -, ⟨-, rfl⟩ | ⟨info, -, rfl⟩ | ⟨i, hi, hexec⟩⟩ := step_cases s t h
  · exact .inl ⟨rfl, rfl, rfl, rfl⟩
  · exact .inl ⟨rfl, rfl, rfl, rfl⟩
  · obtain ⟨hcfg, hmem, hout, hzero⟩ | ⟨hstore, n, ra, ea, hw, hstb⟩ := (hexec ▸ exec_effect i s.advance).memory_cases
    · exact .inl ⟨hcfg, hmem, hout, hzero⟩
    · obtain ⟨hn, hport, rfl⟩ | ⟨-, hfits, rfl⟩ := State.memWrite_cases _ _ _ _ _ hw
      · obtain ⟨rb, disp, rfl, rfl⟩ := hstb hn
        refine .inr (.inl ⟨ra, rb, disp, hi, hport, ?_⟩)
        rw [State.advance_reg, BitVec.setWidth_eq_extractLsb' (by decide)]
      · exact .inr (.inr ⟨i, ea.toNat, n, s.reg ra, hi, hstore, hfits, rfl⟩)

/-- Settles O50: of the three things a step can do to memory and output, one appends a byte. -/
theorem outputOnlyGrows : Obligations.OutputOnlyGrows := by
  intro s t h
  obtain ⟨-, -, hout, -⟩ | ⟨ra, rb, disp, hbegin, hport, rfl⟩ | ⟨i, a, n, v, -, -, -, rfl⟩ := step_memory_cases h
  · exact .inl hout
  · exact .inr ⟨ra, rb, disp, hbegin, hport, rfl, fun _ => rfl⟩
  · exact .inl rfl

/-- Settles O51: of the three things a step can do to memory and output, one writes memory, and it writes a span that
fits. -/
theorem memoryChangesOnlyByStores : Obligations.MemoryChangesOnlyByStores := by
  intro s t k h hchanged
  obtain ⟨-, hmem, -, -⟩ | ⟨ra, rb, disp, -, -, rfl⟩ | ⟨i, a, n, v, hbegin, hstore, hfits, rfl⟩ := step_memory_cases h
  · exact absurd (congrArg (Memory.read · k) hmem) hchanged
  · exact absurd rfl hchanged
  · refine ⟨⟨i, hbegin, hstore⟩, ?_⟩
    have hspan : a ≤ k ∧ k < a + n := by
      by_contra houtside
      exact hchanged (Memory.read_writeLE_outside s.mem a n k v (by omega))
    exact hfits.byte hspan.1 hspan.2

/-! ### The invariant -/

/-- The invariant speaks of memory, configuration and slot 31 only. -/
theorem State.Inv.of_keepsMemory {s t : State} (h : s.Inv) (hkeeps : s.KeepsMemory t) : t.Inv where
  canonical := hkeeps.memory ▸ h.canonical
  placed := by rw [hkeeps.memory, hkeeps.config]; exact h.placed
  zero := hkeeps.slot31.trans h.zero

/-- A write of a span that fits keeps memory canonical and places no byte outside the regions. -/
theorem State.Inv.writeLE {s : State} (h : s.Inv) {a n : Nat} (hfits : s.cfg.Fits a n) (v : Word) :
    State.Inv { s with mem := s.mem.writeLE a n v } where
  canonical := Memory.wf_writeLE s.mem a n v h.canonical
  placed c hc := by
    obtain ⟨hl, hu⟩ | hold := Memory.mem_writeLE s.mem a n v c hc
    · exact hfits.byte hl hu
    · exact h.placed c hold
  zero := h.zero

theorem State.Inv.advance {s : State} (h : s.Inv) : s.advance.Inv := h.of_keepsMemory ⟨rfl, rfl, rfl, rfl⟩

theorem State.Inv.emit {s : State} (h : s.Inv) (b : Byte) : (s.emit b).Inv := ⟨h.canonical, h.placed, h.zero⟩

/-- Settles O4: each of the three things a step can do to memory and output keeps the invariant. -/
theorem invariantKept : Obligations.InvariantKept := by
  intro s t hinv h
  obtain hkeeps | ⟨ra, rb, disp, -, -, rfl⟩ | ⟨i, a, n, v, -, -, hfits, rfl⟩ := step_memory_cases h
  · exact hinv.of_keepsMemory hkeeps
  · exact hinv.advance.emit _
  · exact hinv.advance.writeLE hfits v

/-! ### The branches -/

/-- A branch displacement counts in instructions: the target is aligned when the pc is (R160). -/
theorem State.branchTarget_mod_four (s : State) (disp : BitVec 21) :
    (s.branchTarget disp).toNat % 4 = s.pc.toNat % 4 := by
  simp only [State.branchTarget, State.npc, branchDisp, BitVec.toNat_add, BitVec.toNat_mul, BitVec.toNat_ofNat]
  omega

/-- The instruction completes with an aligned pc, and the status, the output and the bytes of memory as before. -/
def EndsAligned (s : State) (o : Outcome) : Prop :=
  ∃ t, o = .next t ∧ t.pc.toNat % 4 = 0 ∧ t.status = s.status ∧ t.out = s.out ∧ ∀ a, t.mem.read a = s.mem.read a

theorem linkAndGo_endsAligned (s : State) (ra : Reg) (target : Word) (h : target.toNat % 4 = 0) :
    EndsAligned s (linkAndGo ra target s) :=
  ⟨_, rfl, h, by simp, by simp, by simp⟩

theorem branchIf_endsAligned (s : State) (cond : Bool) (disp : BitVec 21) (h : s.pc.toNat % 4 = 0) :
    EndsAligned s (branchIf cond disp s) := by
  cases cond with
  | false => exact ⟨_, rfl, h, rfl, rfl, fun _ => rfl⟩
  | true => exact ⟨_, rfl, (s.branchTarget_mod_four disp).trans h, rfl, rfl, fun _ => rfl⟩

/-- Settles O34: two of the branches link and go to the target, the other eight test a condition. -/
theorem branchTargetsAligned : Obligations.BranchTargetsAligned := by
  intro s ra disp h i hi
  have htarget := (s.branchTarget_mod_four disp).trans h
  have hcond (cond : Bool) := branchIf_endsAligned s cond disp h
  simp only [List.mem_cons, List.not_mem_nil, or_false] at hi
  obtain rfl | rfl | rfl | rfl | rfl | rfl | rfl | rfl | rfl | rfl := hi
  case inl | inr.inl => exact linkAndGo_endsAligned s ra _ htarget
  all_goals exact hcond _

end Machine

end Sys2Proof
end

section
/-! PROOFS. Memory accesses and the loader (spec/20_memory.md): which spans are admitted (R52 to R54), what `MemRead`
and `MemWrite` answer (R58, R59, R61), what is read back after a store (R71, R73), and the image the segments give
(R56). -/

namespace Sys2Proof

/-! ### Which spans fit a region -/

/-- The regions end at or below 2^64, so a span that fits does not wrap (R53). -/
theorem Config.Valid.fits_le {c : Config} (h : c.Valid) {a n : Nat} (hfits : c.Fits a n) : a + n ≤ 2 ^ 64 := by
  obtain ⟨-, himage, hstack, -⟩ := h
  obtain ⟨-, he⟩ | ⟨-, he⟩ := hfits
  · exact he.trans himage
  · exact he.trans hstack.le

/-- A span that crosses the end of the image does not fit: the stack lies wholly above or wholly below (R54). -/
theorem Config.Valid.not_fits_of_crosses_image {c : Config} (h : c.Valid) {a n : Nat} (hs : c.loadStart ≤ a)
    (hin : a < c.loadEnd) (hout : c.loadEnd < a + n) : ¬ c.Fits a n := by
  obtain ⟨-, -, -, hdisjoint⟩ := h
  rintro (⟨-, he⟩ | ⟨hs', he⟩)
  · omega
  · omega

/-- A span that crosses the end of the stack does not fit, for the same reason (R54). -/
theorem Config.Valid.not_fits_of_crosses_stack {c : Config} (h : c.Valid) {a n : Nat} (hs : c.stackStart ≤ a)
    (hin : a < c.stackEnd) (hout : c.stackEnd < a + n) : ¬ c.Fits a n := by
  obtain ⟨-, -, -, hdisjoint⟩ := h
  rintro (⟨hs', he⟩ | ⟨-, he⟩)
  · omega
  · omega

namespace Machine

/-! ### Bytes as one number -/

/-- The bytes read by recursion are the sum of R58. -/
theorem State.readLE_eq_bytesAt (s : State) (a n : Nat) : s.mem.readLE a n = s.bytesAt a n := by
  induction n generalizing a with
  | zero => rfl
  | succ n ih =>
    have hshift (i : Nat) : (s.mem.read (a + (i + 1))).toNat * 2 ^ (8 * (i + 1)) =
        256 * ((s.mem.read (a + 1 + i)).toNat * 2 ^ (8 * i)) := by
      rw [show a + (i + 1) = a + 1 + i by omega, Nat.mul_succ, pow_add]
      ring
    rw [Memory.readLE, ih, State.bytesAt, State.bytesAt, Finset.sum_range_succ', Finset.mul_sum]
    simp only [hshift, Nat.add_zero, Nat.mul_zero, pow_zero, Nat.mul_one]
    exact Nat.add_comm _ _

/-- Bytes `k` to `k + j - 1` of a span just written read as those bytes of the value (R57, R73). -/
theorem Memory.readLE_writeLE (m : Memory) (a : Nat) (v : Word) {n k j : Nat} (h : k + j ≤ n) :
    (m.writeLE a n v).readLE (a + k) j = (v.extractLsb' (8 * k) (8 * j)).toNat := by
  induction j generalizing k with
  | zero => exact (BitVec.toNat_of_zero_length rfl _).symm
  | succ j ih =>
    have hsplit : 2 ^ (8 * (j + 1)) = 2 ^ 8 * 2 ^ (8 * j) := by rw [Nat.mul_succ, pow_add, Nat.mul_comm]
    rw [Memory.readLE, Memory.read_writeLE_inside _ _ _ _ _ (by omega), Nat.add_assoc, ih (by omega)]
    simp only [BitVec.extractLsb'_toNat, Nat.shiftRight_eq_div_pow]
    rw [hsplit, Nat.mod_mul, Nat.div_div_eq_div_mul, Nat.mul_succ, pow_add]
    rfl

/-! ### `MemRead` and `MemWrite` -/

theorem State.memRead_of_fits {s : State} {a : Word} {n : Nat} (h : s.cfg.Fits a.toNat n) :
    s.memRead a n = some (BitVec.ofNat 64 (s.mem.readLE a.toNat n)) := if_pos h

theorem State.memRead_of_not_fits {s : State} {a : Word} {n : Nat} (h : ¬ s.cfg.Fits a.toNat n) :
    s.memRead a n = none := if_neg h

/-- Up to eight bytes make a 64-bit value. -/
theorem State.toNat_ofNat_readLE (s : State) (a : Nat) {n : Nat} (h : n ≤ 8) :
    (BitVec.ofNat 64 (s.mem.readLE a n)).toNat = s.bytesAt a n := by
  have hlt : s.mem.readLE a n < 2 ^ 64 :=
    (Memory.readLE_lt _ _ _).trans_le (Nat.pow_le_pow_right (by decide : 0 < 256) h)
  rw [BitVec.toNat_ofNat, Nat.mod_eq_of_lt hlt, State.readLE_eq_bytesAt]

theorem State.memWrite_port (s : State) (v : Word) : s.memWrite outputAddr 1 v = some (s.emit (v.setWidth 8)) :=
  if_pos ⟨rfl, rfl⟩

theorem State.memWrite_of_fits {s : State} {a : Word} {n : Nat} (hport : ¬ (n = 1 ∧ a = outputAddr))
    (h : s.cfg.Fits a.toNat n) (v : Word) :
    s.memWrite a n v = some { s with mem := s.mem.writeLE a.toNat n v } := by
  rw [State.memWrite, if_neg hport, if_pos h]

theorem State.memWrite_of_not_fits {s : State} {a : Word} {n : Nat} (hport : ¬ (n = 1 ∧ a = outputAddr))
    (h : ¬ s.cfg.Fits a.toNat n) (v : Word) : s.memWrite a n v = none := by
  rw [State.memWrite, if_neg hport, if_neg h]

/-- The whole frame of a byte sent to the output port (R61). -/
theorem State.emits_emit (s : State) (v : Word) : s.Emits (s.emit (v.setWidth 8)) (v.extractLsb' 0 8) where
  output := by rw [State.emit_out, BitVec.setWidth_eq_extractLsb' (by decide)]
  memory _ := rfl
  registers _ := rfl
  pc := rfl
  status := rfl
  config := rfl

/-- The whole frame of a span written (R59). -/
theorem State.stores_writeLE (s : State) (a n : Nat) (v : Word) :
    s.Stores { s with mem := s.mem.writeLE a n v } a n v where
  stored i hi := Memory.read_writeLE_inside s.mem a n i v hi
  memory k hk := Memory.read_writeLE_outside s.mem a n k v hk
  registers _ := rfl
  pc := rfl
  output := rfl
  status := rfl
  config := rfl

/-- Settles O5: the widths are at most 8, so no byte of the sum is lost in the 64-bit value. -/
theorem memReadRule : Obligations.MemReadRule := by
  intro s addr n hn
  have hle : n ≤ 8 := (by decide : ∀ k ∈ [1, 2, 4, 8], k ≤ 8) n hn
  exact ⟨fun hfits => ⟨_, State.memRead_of_fits hfits, s.toNat_ofNat_readLE _ hle⟩, State.memRead_of_not_fits⟩

/-- Settles O6: the three cases are the branches of `MemWrite`, each with its frame. -/
theorem memWriteRule : Obligations.MemWriteRule := by
  intro s addr n v _
  refine ⟨?_, fun hport hfits => State.memWrite_of_not_fits hport hfits v,
    fun hport hfits => ⟨_, State.memWrite_of_fits hport hfits v, s.stores_writeLE _ n v⟩⟩
  rintro ⟨rfl, rfl⟩
  exact ⟨_, s.memWrite_port v, s.emits_emit v⟩

/-- Settles O7: none of the spans fits, and a single byte neither wraps nor straddles, so the output port plays no
part. -/
theorem wrapAndStraddle : Obligations.WrapAndStraddle := by
  intro s addr n v hv _ hspan
  have hport : ¬ (n = 1 ∧ addr = outputAddr) := by
    rintro ⟨rfl, -⟩
    have := addr.isLt
    omega
  have hfits : ¬ s.cfg.Fits addr.toNat n := by
    obtain hwrap | ⟨hs, hin, hout⟩ | ⟨hs, hin, hout⟩ := hspan
    · exact fun h => absurd (hv.fits_le h) hwrap.not_ge
    · exact hv.not_fits_of_crosses_image hs hin hout
    · exact hv.not_fits_of_crosses_stack hs hin hout
  exact ⟨State.memRead_of_not_fits hfits, State.memWrite_of_not_fits hport hfits v⟩

/-! ### Reading back what was stored -/

/-- A part of a span that fits fits, and its address does not wrap, so it reads as that part of the value stored. -/
theorem State.memRead_part_of_memWrite {s t : State} {a v : Word} {n k j : Nat} (hv : s.cfg.Valid) (hn : n ≠ 1)
    (h : s.memWrite a n v = some t) (hk : k < n) (hkj : k + j ≤ n) :
    t.memRead (a + BitVec.ofNat 64 k) j = some ((v.extractLsb' (8 * k) (8 * j)).setWidth 64) := by
  obtain ⟨rfl, -, -⟩ | ⟨-, hfits, rfl⟩ := State.memWrite_cases s t a n v h
  · exact absurd rfl hn
  · have hle := hv.fits_le hfits
    have haddr : (a + BitVec.ofNat 64 k).toNat = a.toNat + k := by
      rw [BitVec.toNat_add, BitVec.toNat_ofNat, Nat.add_mod_mod, Nat.mod_eq_of_lt (by omega)]
    have hpart : s.cfg.Fits (a.toNat + k) j := by
      obtain ⟨hs, he⟩ | ⟨hs, he⟩ := hfits
      · exact .inl ⟨by omega, by omega⟩
      · exact .inr ⟨by omega, by omega⟩
    rw [State.memRead_of_fits (haddr.symm ▸ hpart), haddr, Memory.readLE_writeLE _ _ _ hkj, BitVec.ofNat_toNat]

/-- Settles O8: each clause is a part of the stored quadword. -/
theorem mixedWidthReads : Obligations.MixedWidthReads := by
  intro s t a v hv hw
  have part {k j : Nat} (hk : k < 8) (hkj : k + j ≤ 8) :=
    State.memRead_part_of_memWrite hv (by decide) hw hk hkj
  refine ⟨fun k hk => part hk hk, fun k hk => ?_, ?_, part (k := 4) (j := 4) (by decide) (by decide), ?_⟩
  · have hword := part (k := 2 * k) (j := 2) (by omega) (by omega)
    rwa [← Nat.mul_assoc] at hword
  · simpa using part (k := 0) (j := 4) (by decide) (by decide)
  · simpa using part (k := 0) (j := 8) (by decide) (by decide)

/-! ### A fetch after a store -/

/-- A store that fits, away from the output port, writes memory and completes (R192). -/
theorem store_of_fits {s : State} {ea : Word} {n : Nat} (hport : ¬ (n = 1 ∧ ea = outputAddr))
    (h : s.cfg.Fits ea.toNat n) (ra : Reg) :
    store n ra ea s = .next { s with mem := s.mem.writeLE ea.toNat n (s.reg ra) } := by
  rw [store, State.memWrite_of_fits hport h]

/-- An `stl` to the address in the pc puts the register there as the next instruction word (R207). -/
theorem exec_stl_at_pc {s : State} {rb : Reg} {disp : BitVec 16} (hea : s.effAddr rb disp = s.pc)
    (hfits : s.cfg.Fits s.pc.toNat 4) (ra : Reg) :
    exec (.stl ra rb disp) s = .next (s.placeAtPc (s.reg ra)) := by
  calc exec (.stl ra rb disp) s
      = store 4 ra (s.effAddr rb disp) s := rfl
    _ = store 4 ra s.pc s := by rw [hea]
    _ = .next (s.placeAtPc (s.reg ra)) := store_of_fits (fun h => absurd h.1 (by decide)) hfits ra

/-- A step that passes the halt test, the pc check and the fetch runs the instruction its four bytes encode (R141). -/
theorem State.begin_of_fits {s : State} (hne : s.pc ≠ s.cfg.sentinel) (haligned : s.pc.toNat % 4 = 0)
    (htext : s.cfg.InText s.pc) (hfits : s.cfg.Fits s.pc.toNat 4) :
    s.begin = .run (decode (BitVec.ofNat 32 (s.mem.readLE s.pc.toNat 4))) := by
  obtain ⟨heq, -⟩ | ⟨-, hbad, -⟩ | ⟨-, -, hbad, -⟩ | ⟨-, -, -, hbegin⟩ := s.begin_cases
  · exact absurd heq hne
  · exact absurd hbad (not_or.2 ⟨not_not.2 haligned, not_not.2 htext⟩)
  · exact absurd hfits hbad
  · exact hbegin

/-- The four bytes of a word placed at the pc read back as its low 32 bits. -/
theorem State.ofNat_readLE_placeAtPc (s : State) (v : Word) :
    BitVec.ofNat 32 ((s.placeAtPc v).mem.readLE s.pc.toNat 4) = v.extractLsb' 0 32 :=
  calc BitVec.ofNat 32 ((s.placeAtPc v).mem.readLE s.pc.toNat 4)
      = BitVec.ofNat 32 (v.extractLsb' 0 32).toNat :=
        congrArg _ (Memory.readLE_writeLE s.mem s.pc.toNat v (n := 4) (k := 0) (j := 4) (by decide))
    _ = v.extractLsb' 0 32 := by rw [BitVec.ofNat_toNat, BitVec.setWidth_eq]

/-- Settles O52: the store leaves the pc, the status and the configuration alone, so the next step passes the same
checks and reads the four bytes just written. -/
theorem fetchSeesStores : Obligations.FetchSeesStores := by
  intro s ra rb disp hv hrun hne haligned htext hfits hea
  refine ⟨_, exec_stl_at_pc hea hfits ra, ?_⟩
  have hbegin : (s.placeAtPc (s.reg ra)).begin = .run (decode ((s.reg ra).extractLsb' 0 32)) := by
    rw [State.begin_of_fits (s := s.placeAtPc _) hne haligned htext hfits, State.placeAtPc_pc,
      State.ofNat_readLE_placeAtPc]
  rw [step_running (s.placeAtPc _) hv hrun, hbegin]
  rfl

/-! ### The image of the loader -/

theorem segmentSet_cons (g : Segment) (gs : List Segment) : {x | x ∈ g :: gs} = insert g {x | x ∈ gs} :=
  Set.ext fun _ => List.mem_cons

/-- `LOAD_START` is the least first address. -/
theorem isLeast_segmentsStart (gs : List Segment) (h : gs ≠ []) :
    IsLeast ((fun g : Segment => g.virtualAddress.toNat) '' {g | g ∈ gs}) (segmentsStart gs) := by
  induction gs with
  | nil => exact absurd rfl h
  | cons g gs ih =>
    cases gs with
    | nil => simp [segmentsStart]
    | cons g' gs =>
      rw [segmentSet_cons, Set.image_insert_eq]
      exact (ih (List.cons_ne_nil _ _)).insert _

/-- `LOAD_END` is the greatest limit. -/
theorem isGreatest_segmentsEnd (gs : List Segment) (h : gs ≠ []) :
    IsGreatest (Segment.limit '' {g | g ∈ gs}) (segmentsEnd gs) := by
  induction gs with
  | nil => exact absurd rfl h
  | cons g gs ih =>
    cases gs with
    | nil => simp [segmentsEnd]
    | cons g' gs =>
      rw [segmentSet_cons, Set.image_insert_eq]
      exact (ih (List.cons_ne_nil _ _)).insert _

theorem read_placeBytes_outside (m : Memory) (a k : Nat) (bs : List Byte) (h : k < a ∨ a + bs.length ≤ k) :
    Memory.read (placeBytes m a bs) k = m.read k := by
  induction bs generalizing m a with
  | nil => rfl
  | cons b bs ih =>
    rw [List.length_cons] at h
    rw [placeBytes, ih _ _ (by omega), Memory.read_write, if_neg (by omega)]

theorem read_placeBytes_inside (m : Memory) (a i : Nat) (bs : List Byte) (h : i < bs.length) :
    Memory.read (placeBytes m a bs) (a + i) = bs[i] := by
  induction bs generalizing m a i with
  | nil => exact absurd h (Nat.not_lt_zero i)
  | cons b bs ih =>
    rw [placeBytes]
    cases i with
    | zero => rw [read_placeBytes_outside _ _ _ _ (by omega), Memory.read_write, if_pos (Nat.add_zero a)]; rfl
    | succ i => rw [show a + (i + 1) = a + 1 + i by omega, ih _ _ _ (Nat.lt_of_succ_lt_succ h)]; rfl

/-- An address no segment covers keeps its byte. -/
theorem read_placeSegments_outside (m : Memory) (a : Nat) (gs : List Segment)
    (h : ∀ g ∈ gs, a < g.virtualAddress.toNat ∨ g.virtualAddress.toNat + g.fileBytes.length ≤ a) :
    Memory.read (placeSegments m gs) a = m.read a := by
  induction gs generalizing m with
  | nil => rfl
  | cons g gs ih =>
    obtain ⟨hg, hgs⟩ := List.forall_mem_cons.1 h
    rw [placeSegments, ih _ hgs, read_placeBytes_outside _ _ _ _ hg]

theorem placeSegments_append (m : Memory) (gs gs' : List Segment) :
    placeSegments m (gs ++ gs') = placeSegments (placeSegments m gs) gs' := by
  induction gs generalizing m with
  | nil => rfl
  | cons g gs ih => exact ih _

/-- Settles O2: a byte of a segment is written by that segment and by no later one. -/
theorem loaderImage : Obligations.LoaderImage := by
  intro l hne hbytes
  obtain ⟨⟨gStart, hgStart, hstart⟩, hleast⟩ := isLeast_segmentsStart l.segments hne
  obtain ⟨⟨gEnd, hgEnd, hend⟩, hgreatest⟩ := isGreatest_segmentsEnd l.segments hne
  refine ⟨_, if_pos ⟨hne, hbytes⟩, ⟨gStart, hgStart, hstart.symm⟩, fun g hg => hleast ⟨g, hg, rfl⟩,
    ⟨gEnd, hgEnd, hend.symm⟩, fun g hg => hgreatest ⟨g, hg, rfl⟩, fun a ha => read_placeSegments_outside [] a _ ha,
    ?_, rfl, rfl, rfl, rfl⟩
  intro before g after hsegments i hi hafter
  calc Memory.read (placeSegments [] l.segments) (g.virtualAddress.toNat + i)
      = Memory.read (placeSegments (placeSegments [] before) (g :: after)) (g.virtualAddress.toNat + i) := by
        rw [hsegments, placeSegments_append]
    _ = Memory.read (placeBytes (placeSegments [] before) g.virtualAddress.toNat g.fileBytes)
          (g.virtualAddress.toNat + i) := read_placeSegments_outside _ _ after hafter
    _ = g.fileBytes[i] := read_placeBytes_inside _ _ i _ hi

end Machine

end Sys2Proof
end

section
/-! PROOFS. The decoder and the encoder (spec/30_encoding.md). First what a word is made of and which words the tables
hold; then one pass over the decoder, which shows that its answer is an instruction whose word is the given one, or
`unknown` for a word in no table; then the other direction, one pass over the instructions. -/

namespace Sys2Proof

/-! ### A word is its fields -/

/-- Two parts of a word that lie side by side are one part of it. -/
theorem append_eq_part {n : Nat} {w : BitVec n} (a : Nat) {k l : Nat} {x : BitVec l} {y : BitVec k}
    (hx : x = w.extractLsb' (a + k) l) (hy : y = w.extractLsb' a k) : x ++ y = w.extractLsb' a (l + k) := by
  rw [hx, hy, BitVec.extractLsb'_append_extractLsb'_eq_extractLsb' rfl]

/-- The two forms of operand 2 keep all of bits 20:12 (R99, R100). -/
theorem operand2Field_bits (w : InstrWord) : (operand2Field w).bits = w.extractLsb' 12 9 := by
  unfold operand2Field
  split
  next hbit =>
    rw [BitVec.getLsbD_eq_extractLsb', beq_iff_eq] at hbit
    exact append_eq_part 12 rfl hbit.symm
  next hbit =>
    rw [BitVec.getLsbD_eq_extractLsb', beq_iff_eq] at hbit
    have hzero := (BitVec.eq_zero_or_eq_one _).resolve_right hbit
    exact append_eq_part 12 (append_eq_part 13 rfl rfl) hzero.symm

section
variable {w : InstrWord} {opc : BitVec 6}

theorem memoryWord_of_fields (h : opcField w = opc) : memoryWord opc (raField w) (rbField w) (disp16Field w) = w :=
  (append_eq_part 0 (append_eq_part 16 (append_eq_part 21 h.symm rfl) rfl) rfl).trans BitVec.extractLsb'_eq_self

theorem branchWord_of_fields (h : opcField w = opc) : branchWord opc (raField w) (disp21Field w) = w :=
  (append_eq_part 0 (append_eq_part 21 h.symm rfl) rfl).trans BitVec.extractLsb'_eq_self

theorem low26Word_of_fields (h : opcField w = opc) : low26Word opc (low26Field w) = w :=
  (append_eq_part 0 h.symm rfl).trans BitVec.extractLsb'_eq_self

theorem jumpWord_of_fields {hint : BitVec 2} (h : opcField w = 0x1A#6) (hhint : hintField w = hint) :
    jumpWord (raField w) (rbField w) hint (jdispField w) = w :=
  (append_eq_part 0 (append_eq_part 14 (append_eq_part 16 (append_eq_part 21 h.symm rfl) rfl) hhint.symm) rfl).trans
    BitVec.extractLsb'_eq_self

theorem computeWord_of_fields {fn : BitVec 16} (h : opcField w = 0x18#6) (hfn : func16Field w = fn) :
    computeWord (raField w) (rbField w) fn = w :=
  (append_eq_part 0 (append_eq_part 16 (append_eq_part 21 h.symm rfl) rfl) hfn.symm).trans BitVec.extractLsb'_eq_self

theorem operateWord_of_fields {fn : BitVec 7} (h : opcField w = opc) (hfn : func7Field w = fn) :
    operateWord opc (raField w) (operand2Field w) fn (rcField w) = w :=
  (append_eq_part 0 (append_eq_part 5 (append_eq_part 12 (append_eq_part 21 h.symm rfl) (operand2Field_bits w))
    hfn.symm) rfl).trans BitVec.extractLsb'_eq_self

theorem floatWord_of_fields {fn : BitVec 11} (h : opcField w = opc) (hfn : func11Field w = fn) :
    floatWord opc (raField w) (rbField w) fn (rcField w) = w :=
  (append_eq_part 0 (append_eq_part 5 (append_eq_part 16 (append_eq_part 21 h.symm rfl) rfl) hfn.symm) rfl).trans
    BitVec.extractLsb'_eq_self

end

/-! ### The tables

The tables list `func11` values family by family; the decoder looks at `low6` first and then at the qualifier. -/

section
variable (l : BitVec 6) (fn : BitVec 11)

theorem eq_append_append_iff (t : BitVec 3) (r : BitVec 2) :
    fn = t ++ r ++ l ↔ fn.extractLsb' 8 3 = t ∧ fn.extractLsb' 6 2 = r ∧ low6Field fn = l := by
  constructor
  · rintro rfl
    have hupper (a n : Nat) : (t ++ r ++ l).extractLsb' (6 + a) n = (t ++ r).extractLsb' a n := by
      rw [BitVec.extractLsb'_append_eq_of_le (Nat.le_add_right 6 a), Nat.add_sub_cancel_left]
    exact ⟨(hupper 2 3).trans BitVec.extractLsb'_append_eq_left,
      (hupper 0 2).trans BitVec.extractLsb'_append_eq_right, BitVec.extractLsb'_append_eq_right⟩
  · rintro ⟨rfl, rfl, rfl⟩
    have hjoin : fn.extractLsb' 8 3 ++ fn.extractLsb' 6 2 ++ low6Field fn = fn.extractLsb' 0 11 :=
      append_eq_part 0 (append_eq_part 6 rfl rfl) rfl
    exact (hjoin.trans BitVec.extractLsb'_eq_self).symm

/-- A family holds exactly the values with its `low6` and an allowed qualifier (R110). -/
theorem mem_qualified (trps : List (BitVec 3)) (rnds : List (BitVec 2)) :
    fn ∈ qualified trps rnds l ↔ qualifierIn trps rnds fn = true ∧ low6Field fn = l := by
  simp only [qualified, qualifierIn, List.contains_iff_mem, List.mem_flatMap, List.mem_map,
    eq_comm (b := fn), eq_append_append_iff, Bool.and_eq_true]
  constructor
  · rintro ⟨t, ht, r, hr, rfl, rfl, hl⟩
    exact ⟨⟨ht, hr⟩, hl⟩
  · rintro ⟨⟨ht, hr⟩, hl⟩
    exact ⟨_, ht, _, hr, rfl, rfl, hl⟩

theorem contains_qualified_iff {trps : List (BitVec 3)} {rnds : List (BitVec 2)} {l : BitVec 6} {fn : BitVec 11} :
    (qualified trps rnds l).contains fn = true ↔ qualifierIn trps rnds fn = true ∧ low6Field fn = l :=
  List.contains_iff_mem.trans (mem_qualified ..)

@[simp] theorem mem_vaxArith :
    fn ∈ vaxArith l ↔ qualifierIn [0, 1, 4, 5] [2, 0] fn = true ∧ low6Field fn = l :=
  mem_qualified _ _ _ _

@[simp] theorem mem_vaxFromQuad :
    fn ∈ vaxFromQuad l ↔ qualifierIn [0] [2, 0] fn = true ∧ low6Field fn = l :=
  mem_qualified _ _ _ _

@[simp] theorem mem_vaxCompare :
    fn ∈ vaxCompare l ↔ qualifierIn [0, 4] [2] fn = true ∧ low6Field fn = l :=
  mem_qualified _ _ _ _

@[simp] theorem mem_ieeeArith :
    fn ∈ ieeeArith l ↔ qualifierIn [0, 1, 5, 7] [2, 0, 1, 3] fn = true ∧ low6Field fn = l :=
  mem_qualified _ _ _ _

@[simp] theorem mem_ieeeFromQuad :
    fn ∈ ieeeFromQuad l ↔ qualifierIn [0, 7] [2, 0, 1, 3] fn = true ∧ low6Field fn = l :=
  mem_qualified _ _ _ _

@[simp] theorem mem_ieeeCompare :
    fn ∈ ieeeCompare l ↔ qualifierIn [0, 5] [2] fn = true ∧ low6Field fn = l :=
  mem_qualified _ _ _ _

end

@[simp] theorem low6Field_ofNat (n : Nat) : low6Field (BitVec.ofNat 11 n) = BitVec.ofNat 6 n := by
  apply BitVec.eq_of_toNat_eq
  simp [low6Field]

theorem ne_of_low6Field_ne {fn fn' : BitVec 11} (h : low6Field fn ≠ low6Field fn') : fn ≠ fn' :=
  fun heq => h (heq ▸ rfl)

/-! ### Which words are in no table -/

section
variable {w : InstrWord} {opc : BitVec 6}

theorem unallocated_compute (hopc : opcField w = 0x18#6) :
    unallocated w = true ↔ func16Field w ∉ func16Codes := by
  have h : unallocated w = !func16Codes.contains (func16Field w) := if_pos hopc
  simp [h]

theorem unallocated_operate (hopc : opcField w = opc) (hoperate : opc ∈ [0x10#6, 0x11#6, 0x12#6, 0x13#6, 0x1C#6]) :
    unallocated w = true ↔ func7Field w ∉ func7Codes opc := by
  subst hopc
  have hne : opcField w ≠ 0x18#6 := fun heq => absurd (heq ▸ hoperate) (by decide)
  have h : unallocated w = !(func7Codes (opcField w)).contains (func7Field w) :=
    (if_neg hne).trans (if_pos hoperate)
  simp [h]

theorem unallocated_float (hopc : opcField w = opc) (hfloat : opc ∈ [0x14#6, 0x15#6, 0x16#6, 0x17#6]) :
    unallocated w = true ↔ func11Field w ∉ func11Codes opc := by
  obtain ⟨hne, hnot⟩ : opc ≠ 0x18#6 ∧ opc ∉ [0x10#6, 0x11#6, 0x12#6, 0x13#6, 0x1C#6] := by
    fin_cases hfloat <;> decide
  subst hopc
  have h : unallocated w = !(func11Codes (opcField w)).contains (func11Field w) :=
    (if_neg hne).trans ((if_neg hnot).trans (if_pos hfloat))
  simp [h]

theorem not_unallocated_of_noTable (hopc : opcField w = opc)
    (hnone : opc ∉ [0x10#6, 0x11#6, 0x12#6, 0x13#6, 0x14#6, 0x15#6, 0x16#6, 0x17#6, 0x18#6, 0x1C#6]) :
    ¬ unallocated w = true := by
  simp_all [unallocated, opcField]

end

/-! ### What the decoder answers -/

/-- What `decode` may answer for a word: an instruction that the encodings admit and whose word it is, or `unknown`
for a word in no table. -/
inductive Decoded (w : InstrWord) : Instr → Prop
  | inTable {i : Instr} (htable : ¬ unallocated w = true) (hopcode : i.opcode ≠ .unknown)
      (hwf : i.wellFormed = true) (hword : encode i = w) : Decoded w i
  | inNoTable (htable : unallocated w = true) : Decoded w (.unknown w)

section
variable {w : InstrWord} {opc : BitVec 6}

theorem Decoded.noTable {i : Instr} (hopc : opcField w = opc)
    (hnone : opc ∉ [0x10#6, 0x11#6, 0x12#6, 0x13#6, 0x14#6, 0x15#6, 0x16#6, 0x17#6, 0x18#6, 0x1C#6])
    (hopcode : i.opcode ≠ .unknown) (hwf : i.wellFormed = true) (hword : encode i = w) : Decoded w i :=
  .inTable (not_unallocated_of_noTable hopc hnone) hopcode hwf hword

theorem Decoded.operate {i : Instr} {fn : BitVec 7} (hopc : opcField w = opc) (hfn : func7Field w = fn)
    (hoperate : opc ∈ [0x10#6, 0x11#6, 0x12#6, 0x13#6, 0x1C#6])
    (hcode : fn ∈ func7Codes opc) (hopcode : i.opcode ≠ .unknown) (hwf : i.wellFormed = true)
    (hword : encode i = operateWord opc (raField w) (operand2Field w) fn (rcField w)) : Decoded w i :=
  .inTable (by rw [unallocated_operate hopc hoperate, hfn]; exact not_not.2 hcode) hopcode hwf
    (hword.trans (operateWord_of_fields hopc hfn))

theorem Decoded.float {i : Instr} (hopc : opcField w = opc)
    (hfloat : opc ∈ [0x14#6, 0x15#6, 0x16#6, 0x17#6]) (hcode : func11Field w ∈ func11Codes opc)
    (hopcode : i.opcode ≠ .unknown) (hwf : i.wellFormed = true)
    (hword : encode i = floatWord opc (raField w) (rbField w) (func11Field w) (rcField w)) : Decoded w i :=
  .inTable (by rw [unallocated_float hopc hfloat]; exact not_not.2 hcode) hopcode hwf
    (hword.trans (floatWord_of_fields hopc rfl))

/-- A row of a floating table whose qualifier is tested after `low6`. -/
theorem Decoded.floatIf {i : Instr} {allowed : Bool} (hopc : opcField w = opc)
    (hfloat : opc ∈ [0x14#6, 0x15#6, 0x16#6, 0x17#6])
    (hcode : func11Field w ∈ func11Codes opc ↔ allowed = true) (hopcode : i.opcode ≠ .unknown)
    (hwf : allowed = true → i.wellFormed = true)
    (hword : allowed = true → encode i = floatWord opc (raField w) (rbField w) (func11Field w) (rcField w)) :
    Decoded w (if allowed then i else .unknown w) := by
  cases allowed with
  | false => exact .inNoTable (by simp [unallocated_float hopc hfloat, hcode])
  | true => exact .float hopc hfloat (hcode.2 rfl) hopcode (hwf rfl) (hword rfl)

theorem decodeOperate10_decoded (hopc : opcField w = 0x10#6) : Decoded w (decodeOperate10 w) := by
  unfold decodeOperate10
  split
  case h_23 => exact .inNoTable (by simp_all [unallocated_operate hopc, func7Codes])
  all_goals
    next hfn => exact .operate hopc hfn (by decide) (by decide) nofun rfl rfl

theorem decodeOperate11_decoded (hopc : opcField w = 0x11#6) : Decoded w (decodeOperate11 w) := by
  unfold decodeOperate11
  split
  case h_17 => exact .inNoTable (by simp_all [unallocated_operate hopc, func7Codes])
  all_goals
    next hfn => exact .operate hopc hfn (by decide) (by decide) nofun rfl rfl

theorem decodeOperate12_decoded (hopc : opcField w = 0x12#6) : Decoded w (decodeOperate12 w) := by
  unfold decodeOperate12
  split
  case h_27 => exact .inNoTable (by simp_all [unallocated_operate hopc, func7Codes])
  all_goals
    next hfn => exact .operate hopc hfn (by decide) (by decide) nofun rfl rfl

theorem decodeOperate13_decoded (hopc : opcField w = 0x13#6) : Decoded w (decodeOperate13 w) := by
  unfold decodeOperate13
  split
  case h_6 => exact .inNoTable (by simp_all [unallocated_operate hopc, func7Codes])
  all_goals
    next hfn => exact .operate hopc hfn (by decide) (by decide) nofun rfl rfl

theorem decodeOperate1C_decoded (hopc : opcField w = 0x1C#6) : Decoded w (decodeOperate1C w) := by
  unfold decodeOperate1C
  split
  case h_21 => exact .inNoTable (by simp_all [unallocated_operate hopc, func7Codes])
  all_goals
    next hfn => exact .operate hopc hfn (by decide) (by decide) nofun rfl rfl

theorem decodeFloat14_decoded (hopc : opcField w = 0x14#6) : Decoded w (decodeFloat14 w) := by
  unfold decodeFloat14
  dsimp only
  split
  case h_8 => exact .inNoTable (by simp_all [unallocated_float hopc, func11Codes, ne_of_low6Field_ne])
  -- `itofs`, `itoff` and `itoft`, which have no qualifier
  case h_1 hl | h_4 hl | h_5 hl =>
    exact .floatIf hopc (by decide) (by simp [func11Codes, hl, ne_of_low6Field_ne]) nofun (fun _ => rfl)
      (fun hfn => by rw [eq_of_beq hfn]; rfl)
  all_goals
    next hl =>
      exact .floatIf hopc (by decide) (by simp [func11Codes, hl, ne_of_low6Field_ne]) nofun
        (fun hq => contains_qualified_iff.2 ⟨hq, hl⟩) (fun _ => rfl)

theorem decodeFloat15_decoded (hopc : opcField w = 0x15#6) : Decoded w (decodeFloat15 w) := by
  unfold decodeFloat15
  dsimp only
  split
  case h_18 => exact .inNoTable (by simp_all [unallocated_float hopc, func11Codes])
  all_goals
    next hl =>
      exact .floatIf hopc (by decide) (by simp [func11Codes, hl]) nofun
        (fun hq => contains_qualified_iff.2 ⟨hq, hl⟩) (fun _ => rfl)

theorem decodeFloat16_decoded (hopc : opcField w = 0x16#6) : Decoded w (decodeFloat16 w) := by
  unfold decodeFloat16
  dsimp only
  split
  -- `cvtts` and `cvtst` share their `low6`
  case h_13 hl =>
    split
    next hq =>
      exact .float hopc (by decide) (by simp_all [func11Codes]) nofun (contains_qualified_iff.2 ⟨hq, hl⟩) rfl
    next hq =>
      exact .floatIf hopc (by decide) (by simp_all [func11Codes]) nofun
        (fun hfn => List.contains_iff_mem.2 (by simpa using hfn)) (fun _ => rfl)
  case h_17 => exact .inNoTable (by simp_all [unallocated_float hopc, func11Codes, ne_of_low6Field_ne])
  all_goals
    next hl =>
      exact .floatIf hopc (by decide) (by simp [func11Codes, hl, ne_of_low6Field_ne]) nofun
        (fun hq => contains_qualified_iff.2 ⟨hq, hl⟩) (fun _ => rfl)

theorem decodeFloat17_decoded (hopc : opcField w = 0x17#6) : Decoded w (decodeFloat17 w) := by
  unfold decodeFloat17
  dsimp only
  split
  case h_16 => exact .inNoTable (by simp_all [unallocated_float hopc, func11Codes])
  -- `cvtql`, the one Opcode of this primary with more than one `func11`
  case h_13 hfn | h_14 hfn | h_15 hfn =>
    exact .float hopc (by decide) (by rw [hfn]; decide) nofun (by rw [hfn]; rfl) rfl
  all_goals
    next hfn => exact .float hopc (by decide) (by rw [hfn]; decide) nofun rfl (by rw [hfn]; rfl)

theorem decodeCompute18_decoded (hopc : opcField w = 0x18#6) : Decoded w (decodeCompute18 w) := by
  unfold decodeCompute18
  split
  case h_13 => exact .inNoTable (by simp_all [unallocated_compute hopc, func16Codes])
  all_goals
    next hfn =>
      exact .inTable (by rw [unallocated_compute hopc, hfn]; decide) nofun rfl (computeWord_of_fields hopc hfn)

theorem decodeJump1A_decoded (hopc : opcField w = 0x1A#6) : Decoded w (decodeJump1A w) := by
  unfold decodeJump1A
  split
  case h_4 =>
    have hhint : hintField w = 3#2 := by simp only [imp_false] at *; bv_omega
    exact .noTable hopc (by decide) nofun rfl (jumpWord_of_fields hopc hhint)
  all_goals
    next hhint => exact .noTable hopc (by decide) nofun rfl (jumpWord_of_fields hopc hhint)

/-- The pass over the decoder: the rows of the primaries with a table are those of the lemmas above. -/
theorem decode_decoded (w : InstrWord) : Decoded w (decode w) := by
  unfold decode
  split
  case h_17 hopc => exact decodeOperate10_decoded hopc
  case h_18 hopc => exact decodeOperate11_decoded hopc
  case h_19 hopc => exact decodeOperate12_decoded hopc
  case h_20 hopc => exact decodeOperate13_decoded hopc
  case h_21 hopc => exact decodeFloat14_decoded hopc
  case h_22 hopc => exact decodeFloat15_decoded hopc
  case h_23 hopc => exact decodeFloat16_decoded hopc
  case h_24 hopc => exact decodeFloat17_decoded hopc
  case h_25 hopc => exact decodeCompute18_decoded hopc
  case h_27 hopc => exact decodeJump1A_decoded hopc
  case h_29 hopc => exact decodeOperate1C_decoded hopc
  -- PalCall and the placeholders
  case h_1 hopc | h_2 hopc | h_3 hopc | h_4 hopc | h_5 hopc | h_6 hopc | h_7 hopc | h_8 hopc | h_26 hopc | h_28 hopc |
    h_30 hopc | h_31 hopc | h_32 hopc =>
    exact .noTable hopc (by decide) nofun rfl (low26Word_of_fields hopc)
  -- Memory
  case h_9 hopc | h_10 hopc | h_11 hopc | h_12 hopc | h_13 hopc | h_14 hopc | h_15 hopc | h_16 hopc | h_33 hopc |
    h_34 hopc | h_35 hopc | h_36 hopc | h_37 hopc | h_38 hopc | h_39 hopc | h_40 hopc | h_41 hopc | h_42 hopc |
    h_43 hopc | h_44 hopc | h_45 hopc | h_46 hopc | h_47 hopc | h_48 hopc =>
    exact .noTable hopc (by decide) nofun rfl (memoryWord_of_fields hopc)
  -- Branch; the last row is the default of the match
  case h_64 =>
    have hopc : opcField w = 0x3F#6 := by simp only [imp_false] at *; bv_omega
    exact .noTable hopc (by decide) nofun rfl (branchWord_of_fields hopc)
  case h_49 hopc | h_50 hopc | h_51 hopc | h_52 hopc | h_53 hopc | h_54 hopc | h_55 hopc | h_56 hopc | h_57 hopc |
    h_58 hopc | h_59 hopc | h_60 hopc | h_61 hopc | h_62 hopc | h_63 hopc =>
    exact .noTable hopc (by decide) nofun rfl (branchWord_of_fields hopc)

theorem Decoded.wellFormed {i : Instr} (h : Decoded w i) : i.wellFormed = true := by
  cases h with
  | inTable _ _ hwf _ => exact hwf
  | inNoTable htable => exact htable

theorem Decoded.encode_eq {i : Instr} (h : Decoded w i) : encode i = w := by
  cases h with
  | inTable _ _ _ hword => exact hword
  | inNoTable _ => rfl

theorem Decoded.opcode_eq_unknown_iff {i : Instr} (h : Decoded w i) : i.opcode = .unknown ↔ unallocated w = true := by
  cases h with
  | inTable htable hopcode _ _ => exact iff_of_false hopcode htable
  | inNoTable htable => exact iff_of_true rfl htable

theorem Decoded.eq_unknown {i : Instr} (h : Decoded w i) (htable : unallocated w = true) : i = .unknown w := by
  cases h with
  | inTable hnot => exact absurd htable hnot
  | inNoTable => rfl

end

/-- Settles O58: both halves are read off the pass over the decoder. -/
theorem encodeOfDecode : Obligations.EncodeOfDecode :=
  fun w => ⟨(decode_decoded w).wellFormed, (decode_decoded w).encode_eq⟩

/-- Settles O54: the decoder answers `unknown` for a word in no table and for no other. -/
theorem unknownExactly : Obligations.UnknownExactly :=
  fun w => (decode_decoded w).opcode_eq_unknown_iff

end Sys2Proof
end

section
/-! PROOFS. Decoding the encoding of a well-formed instruction (spec/30_encoding.md, R91): a row of the decoder, read on
a word written by the encoder, gives the operands back. -/

namespace Sys2Proof

/-! ### The primaries with a decoder of their own (R102) -/

section
variable {w : InstrWord}

theorem decode_eq_operate10 (h : opcField w = 0x10#6) : decode w = decodeOperate10 w := by rw [decode, h]; rfl
theorem decode_eq_operate11 (h : opcField w = 0x11#6) : decode w = decodeOperate11 w := by rw [decode, h]; rfl
theorem decode_eq_operate12 (h : opcField w = 0x12#6) : decode w = decodeOperate12 w := by rw [decode, h]; rfl
theorem decode_eq_operate13 (h : opcField w = 0x13#6) : decode w = decodeOperate13 w := by rw [decode, h]; rfl
theorem decode_eq_operate1C (h : opcField w = 0x1C#6) : decode w = decodeOperate1C w := by rw [decode, h]; rfl
theorem decode_eq_float14 (h : opcField w = 0x14#6) : decode w = decodeFloat14 w := by rw [decode, h]; rfl
theorem decode_eq_float15 (h : opcField w = 0x15#6) : decode w = decodeFloat15 w := by rw [decode, h]; rfl
theorem decode_eq_float16 (h : opcField w = 0x16#6) : decode w = decodeFloat16 w := by rw [decode, h]; rfl
theorem decode_eq_float17 (h : opcField w = 0x17#6) : decode w = decodeFloat17 w := by rw [decode, h]; rfl
theorem decode_eq_compute18 (h : opcField w = 0x18#6) : decode w = decodeCompute18 w := by rw [decode, h]; rfl
theorem decode_eq_jump1A (h : opcField w = 0x1A#6) : decode w = decodeJump1A w := by rw [decode, h]; rfl

end

/-! ### A row on a word of its Format

`hrow` is the row: what `decode` answers for a word with this primary opcode and this secondary field. -/

section
variable {opc : BitVec 6} {ra rb rc : Reg}

theorem decode_memoryWord {f : Reg → Reg → BitVec 16 → Instr}
    (hrow : ∀ w, opcField w = opc → decode w = f (raField w) (rbField w) (disp16Field w)) {disp : BitVec 16} :
    decode (memoryWord opc ra rb disp) = f ra rb disp := by
  rw [hrow _ (opcField_memoryWord ..), raField_memoryWord, rbField_memoryWord, disp16Field_memoryWord]

theorem decode_branchWord {f : Reg → BitVec 21 → Instr}
    (hrow : ∀ w, opcField w = opc → decode w = f (raField w) (disp21Field w)) {disp : BitVec 21} :
    decode (branchWord opc ra disp) = f ra disp := by
  rw [hrow _ (opcField_branchWord ..), raField_branchWord, disp21Field_branchWord]

theorem decode_low26Word {f : BitVec 26 → Instr} (hrow : ∀ w, opcField w = opc → decode w = f (low26Field w))
    {low : BitVec 26} : decode (low26Word opc low) = f low := by
  rw [hrow _ (opcField_low26Word ..), low26Field_low26Word]

theorem decode_jumpWord {f : Reg → Reg → BitVec 14 → Instr} {hint : BitVec 2}
    (hrow : ∀ w, opcField w = 0x1A#6 → hintField w = hint → decode w = f (raField w) (rbField w) (jdispField w))
    {jdisp : BitVec 14} : decode (jumpWord ra rb hint jdisp) = f ra rb jdisp := by
  rw [hrow _ (opcField_jumpWord ..) (hintField_jumpWord ..), raField_jumpWord, rbField_jumpWord, jdispField_jumpWord]

theorem decode_computeWord {f : Reg → Reg → Instr} {fn : BitVec 16}
    (hrow : ∀ w, opcField w = 0x18#6 → func16Field w = fn → decode w = f (raField w) (rbField w)) :
    decode (computeWord ra rb fn) = f ra rb := by
  rw [hrow _ (opcField_computeWord ..) (func16Field_computeWord ..), raField_computeWord, rbField_computeWord]

theorem decode_operateWord {f : Reg → Operand2 → Reg → Instr} {fn : BitVec 7}
    (hrow : ∀ w, opcField w = opc → func7Field w = fn → decode w = f (raField w) (operand2Field w) (rcField w))
    {b : Operand2} : decode (operateWord opc ra b fn rc) = f ra b rc := by
  rw [hrow _ (opcField_operateWord ..) (func7Field_operateWord ..), raField_operateWord, operand2Field_operateWord,
    rcField_operateWord]

theorem decode_floatWord {f : Reg → Reg → Reg → Instr} {fn : BitVec 11}
    (hrow : ∀ w, opcField w = opc → func11Field w = fn → decode w = f (raField w) (rbField w) (rcField w)) :
    decode (floatWord opc ra rb fn rc) = f ra rb rc := by
  rw [hrow _ (opcField_floatWord ..) (func11Field_floatWord ..), raField_floatWord, rbField_floatWord,
    rcField_floatWord]

theorem decode_floatWord_of_func11 {f : Reg → Reg → BitVec 11 → Reg → Instr} {fn : BitVec 11}
    (hrow : ∀ w, opcField w = opc → func11Field w = fn → decode w = f (raField w) (rbField w) fn (rcField w)) :
    decode (floatWord opc ra rb fn rc) = f ra rb fn rc :=
  decode_floatWord (f := fun fa fb fc => f fa fb fn fc) hrow

end

/-- The pass over the instructions, by primary opcode. -/
theorem decode_encode (i : Instr) (hwf : i.wellFormed = true) : decode (encode i) = i := by
  cases i
  case unknown w => exact (decode_decoded w).eq_unknown hwf
  case lda | ldah | ldbu | ldqU | ldwu | stw | stb | stqU | ldf | ldg | lds | ldt | stf | stg | sts | stt | ldl |
    ldq | ldlL | ldqL | stl | stq | stlC | stqC =>
    exact decode_memoryWord (fun w h => by rw [decode, h]; rfl)
  case br | fbeq | fblt | fble | bsr | fbne | fbge | fbgt | blbc | beq | blt | ble | blbs | bne | bge | bgt =>
    exact decode_branchWord (fun w h => by rw [decode, h]; rfl)
  case jmp | jsr | ret | jsrCoroutine =>
    exact decode_jumpWord (fun w h hhint => by rw [decode_eq_jump1A h, decodeJump1A, hhint]; rfl)
  case trapb | excb | mb | wmb | fetch | fetchM | rpcc | rc | ecb | rs | wh64 | wh64en =>
    exact decode_computeWord (fun w h hfn => by rw [decode_eq_compute18 h, decodeCompute18, hfn]; rfl)
  case addl | s4addl | subl | s4subl | cmpbge | s8addl | s8subl | cmpult | addq | s4addq | subq | s4subq | cmpeq |
    s8addq | s8subq | cmpule | addlV | sublV | cmplt | addqV | subqV | cmple =>
    exact decode_operateWord (fun w h hfn => by rw [decode_eq_operate10 h, decodeOperate10, hfn]; rfl)
  case and | bic | cmovlbs | cmovlbc | bis | cmoveq | cmovne | ornot | xor | cmovlt | cmovge | eqv | amask |
    cmovle | cmovgt | implver =>
    exact decode_operateWord (fun w h hfn => by rw [decode_eq_operate11 h, decodeOperate11, hfn]; rfl)
  case mskbl | extbl | insbl | mskwl | extwl | inswl | mskll | extll | insll | zap | zapnot | mskql | srl |
    extql | sll | insql | sra | mskwh | inswh | extwh | msklh | inslh | extlh | mskqh | insqh | extqh =>
    exact decode_operateWord (fun w h hfn => by rw [decode_eq_operate12 h, decodeOperate12, hfn]; rfl)
  case mull | mulq | umulh | mullV | mulqV =>
    exact decode_operateWord (fun w h hfn => by rw [decode_eq_operate13 h, decodeOperate13, hfn]; rfl)
  case sextb | sextw | ctpop | perr | ctlz | cttz | unpkbw | unpkbl | pkwb | pklb | minsb8 | minsw4 | minub8 |
    minuw4 | maxub8 | maxuw4 | maxsb8 | maxsw4 | ftoit | ftois =>
    exact decode_operateWord (fun w h hfn => by rw [decode_eq_operate1C h, decodeOperate1C, hfn]; rfl)
  case callPal | opc01 | opc02 | opc03 | opc04 | opc05 | opc06 | opc07 | pal19 | pal1b | pal1d | pal1e | pal1f =>
    exact decode_low26Word (fun w h => by rw [decode, h]; rfl)
  case itofs | itoff | itoft =>
    exact decode_floatWord (fun w h hfn => by rw [decode_eq_float14 h, decodeFloat14, hfn]; rfl)
  case sqrtf | sqrts | sqrtg | sqrtt fa fb fn fc =>
    obtain ⟨hq, hl⟩ := contains_qualified_iff.1 hwf
    exact decode_floatWord_of_func11 (fun w h hfn => by
      rw [decode_eq_float14 h, decodeFloat14, hfn, hl]; exact if_pos hq)
  case addf | subf | mulf | divf | cvtdg | addg | subg | mulg | divg | cmpgeq | cmpglt | cmpgle | cvtgf | cvtgd |
    cvtgq | cvtqf | cvtqg fa fb fn fc =>
    obtain ⟨hq, hl⟩ := contains_qualified_iff.1 hwf
    exact decode_floatWord_of_func11 (fun w h hfn => by
      rw [decode_eq_float15 h, decodeFloat15, hfn, hl]; exact if_pos hq)
  case adds | subs | muls | divs | addt | subt | mult | divt | cmptun | cmpteq | cmptlt | cmptle | cvtts | cvttq |
    cvtqs | cvtqt fa fb fn fc =>
    obtain ⟨hq, hl⟩ := contains_qualified_iff.1 hwf
    exact decode_floatWord_of_func11 (fun w h hfn => by
      rw [decode_eq_float16 h, decodeFloat16, hfn, hl]; exact if_pos hq)
  case cvtst fa fb fn fc =>
    obtain rfl | rfl : fn = 0x2AC#11 ∨ fn = 0x6AC#11 := by simpa using List.contains_iff_mem.1 hwf
    all_goals exact decode_floatWord_of_func11 (fun w h hfn => by rw [decode_eq_float16 h, decodeFloat16, hfn]; rfl)
  case cvtlq | cpys | cpysn | cpyse | mtFpcr | mfFpcr | fcmoveq | fcmovne | fcmovlt | fcmovge | fcmovle |
    fcmovgt =>
    exact decode_floatWord (fun w h hfn => by rw [decode_eq_float17 h, decodeFloat17, hfn]; rfl)
  case cvtql fa fb fn fc =>
    obtain rfl | rfl | rfl : fn = 0x030#11 ∨ fn = 0x130#11 ∨ fn = 0x530#11 := by
      simpa using List.contains_iff_mem.1 hwf
    all_goals exact decode_floatWord_of_func11 (fun w h hfn => by rw [decode_eq_float17 h, decodeFloat17, hfn]; rfl)

/-- Settles O57: the pass over the instructions. -/
theorem decodeOfEncode : Obligations.DecodeOfEncode := decode_encode

end Sys2Proof
end

section
/-! PROOFS. The ignored bits (R100, R117 of spec/30_encoding.md), the Format table (R92) and the words of R121.
Words that agree outside the ignored bits either are equal or decode to instructions of one Opcode that act alike. -/

namespace Sys2Proof

namespace Machine

/-! ### Instructions without execution semantics (R147, R148) -/

theorem executedBranch_subset : executedBranch ⊆ executedOpcodes := fun _ h => by simp [executedOpcodes, h]

theorem executedMemory_subset : executedMemory ⊆ executedOpcodes := fun _ h => by simp [executedOpcodes, h]

theorem executedArith_subset : executedArith ⊆ executedOpcodes := fun _ h => by simp [executedOpcodes, h]

theorem executedLogical_subset : executedLogical ⊆ executedOpcodes := fun _ h => by simp [executedOpcodes, h]

theorem executedShift_subset : executedShift ⊆ executedOpcodes := fun _ h => by simp [executedOpcodes, h]

theorem contains_of_not_executes {i : Instr} (h : i.executes = false) {l : List Opcode} (hl : l ⊆ executedOpcodes) :
    l.contains i.opcode = false := by
  rw [Instr.executes, Bool.or_eq_false_iff] at h
  simpa using fun hmem => absurd (hl hmem) (by simpa using h.1)

/-- Outside the executed set an instruction raises UnimplementedOpcode (R148, R500): the first five groups are the
tables of R147, all other instructions but the two prefetches are decode-only by definition. -/
theorem exec_of_not_executes {i : Instr} (h : i.executes = false) (s : State) : exec i s = unimplemented i s := by
  have htable {l : List Opcode} (hl : l ⊆ executedOpcodes) (hi : true = l.contains i.opcode) : False :=
    Bool.false_ne_true ((contains_of_not_executes h hl).symm.trans hi.symm)
  cases i
  case br | bsr | beq | bne | blt | ble | bgt | bge | blbc | blbs | jmp | jsr | ret | jsrCoroutine =>
    exact (htable executedBranch_subset rfl).elim
  case lda | ldah | ldbu | ldwu | ldl | ldq | ldqU | stb | stw | stl | stq | stqU =>
    exact (htable executedMemory_subset rfl).elim
  case addl | s4addl | s8addl | subl | s4subl | s8subl | addq | s4addq | s8addq | subq | s4subq | s8subq |
    cmpbge | cmpeq | cmplt | cmple | cmpult | cmpule | mull | mulq | umulh | sextb | sextw =>
    exact (htable executedArith_subset rfl).elim
  case and | bic | bis | ornot | xor | eqv | cmoveq | cmovne | cmovlt | cmovge | cmovle | cmovgt | cmovlbs |
    cmovlbc =>
    exact (htable executedLogical_subset rfl).elim
  case sll | srl | sra | zap | zapnot | mskbl | mskwl | mskll | mskql | mskwh | msklh | mskqh | insbl | inswl |
    insll | insql | inswh | inslh | insqh | extbl | extwl | extll | extql | extwh | extlh | extqh =>
    exact (htable executedShift_subset rfl).elim
  case lds fa rb disp | ldt fa rb disp =>
    have hfa : (raField (memoryWord _ fa rb disp) == 31#5) = false := h
    rw [raField_memoryWord, beq_eq_false_iff_ne] at hfa
    exact if_neg hfa
  all_goals rfl

end Machine

open Machine

/-- A test that every Opcode with execution semantics passes (`mayExecute_of_mem`), by its place in the enumeration:
those from `ctpop` on and those from `trapb` to `wh64en` have none, nor have eight others. It evaluates faster than a
search of the lists. -/
def Opcode.mayExecute (op : Opcode) : Bool :=
  op.ctorIdx.blt Opcode.ctpop.ctorIdx &&
  (op.ctorIdx.blt Opcode.trapb.ctorIdx || Opcode.wh64en.ctorIdx.blt op.ctorIdx) &&
  !([.addlV, .sublV, .addqV, .subqV, .amask, .implver, .mullV, .mulqV] : List Opcode).contains op

theorem Opcode.mayExecute_of_mem : ∀ op ∈ executedOpcodes ++ prefetchOpcodes, op.mayExecute = true :=
  List.all_eq_true.1 rfl

/-! ### Instructions that act alike -/

/-- Two instructions of one Opcode, not `lds` or `ldt`, that do the same if the Opcode is executed. -/
structure Instr.Alike (i i' : Instr) : Prop where
  opcode : i.opcode = i'.opcode
  notPrefetch : prefetchOpcodes.contains i.opcode = false
  effect : i.executes = true → ∀ s, exec i s = exec i' s

theorem Instr.executes_of_notPrefetch {i : Instr} (h : prefetchOpcodes.contains i.opcode = false) :
    i.executes = executedOpcodes.contains i.opcode := by
  rw [Instr.executes, h, Bool.false_and, Bool.or_false]

theorem Instr.Alike.decodeOnly {i i' : Instr} (hopcode : i.opcode = i'.opcode)
    (h : i.opcode.mayExecute = false) : i.Alike i' := by
  have hnot : i.opcode ∉ executedOpcodes ++ prefetchOpcodes := fun hmem =>
    Bool.false_ne_true (h.symm.trans (Opcode.mayExecute_of_mem _ hmem))
  rw [List.mem_append, not_or] at hnot
  obtain ⟨hexec, hpre⟩ := hnot
  have hp : prefetchOpcodes.contains i.opcode = false := by simpa using hpre
  exact ⟨hopcode, hp, fun hi => absurd (by simpa [Instr.executes_of_notPrefetch hp] using hi) hexec⟩

theorem Instr.Alike.unknown (w w' : InstrWord) : (Instr.unknown w).Alike (.unknown w') := .decodeOnly rfl rfl

theorem Instr.Alike.ite {c : Prop} [Decidable c] {i i' j j' : Instr} (hi : i.Alike i') (hj : j.Alike j') :
    (if c then i else j).Alike (if c then i' else j') := by
  split
  · exact hi
  · exact hj

/-- Second operands that differ at most in the ignored bits 15:13 (R100). -/
inductive Operand2.Alike : Operand2 → Operand2 → Prop
  | same (b : Operand2) : Alike b b
  | reg (rb : Reg) (k k' : BitVec 3) : Alike (.reg rb k) (.reg rb k')

/-- Two Operate words that agree on the fields that count, `ra` apart (R99). -/
structure SameOperate (w w' : InstrWord) : Prop where
  func7 : func7Field w = func7Field w'
  rc : rcField w = rcField w'
  operand2 : (operand2Field w).Alike (operand2Field w')

/-! ### Each decoder on words that agree where it looks -/

section
variable {w w' : InstrWord}

theorem decodeOperate10_alike (h : SameOperate w w') (hra : raField w = raField w') :
    (decodeOperate10 w).Alike (decodeOperate10 w') := by
  obtain ⟨hfn, hrc, hb⟩ := h
  unfold decodeOperate10
  rw [hfn, hrc, hra]
  generalize operand2Field w = b, operand2Field w' = b' at hb ⊢
  dsimp only
  split
  -- the overflow forms and `unknown`
  case h_17 | h_18 | h_20 | h_21 | h_23 => exact .decodeOnly rfl rfl
  all_goals cases hb <;> exact ⟨rfl, rfl, fun _ _ => rfl⟩

theorem decodeOperate11_alike (h : SameOperate w w') (hra : raField w = raField w') :
    (decodeOperate11 w).Alike (decodeOperate11 w') := by
  obtain ⟨hfn, hrc, hb⟩ := h
  unfold decodeOperate11
  rw [hfn, hrc, hra]
  generalize operand2Field w = b, operand2Field w' = b' at hb ⊢
  dsimp only
  split
  -- `amask`, `implver` and `unknown`
  case h_13 | h_16 | h_17 => exact .decodeOnly rfl rfl
  all_goals cases hb <;> exact ⟨rfl, rfl, fun _ _ => rfl⟩

theorem decodeOperate12_alike (h : SameOperate w w') (hra : raField w = raField w') :
    (decodeOperate12 w).Alike (decodeOperate12 w') := by
  obtain ⟨hfn, hrc, hb⟩ := h
  unfold decodeOperate12
  rw [hfn, hrc, hra]
  generalize operand2Field w = b, operand2Field w' = b' at hb ⊢
  dsimp only
  split
  case h_27 => exact .decodeOnly rfl rfl
  all_goals cases hb <;> exact ⟨rfl, rfl, fun _ _ => rfl⟩

theorem decodeOperate13_alike (h : SameOperate w w') (hra : raField w = raField w') :
    (decodeOperate13 w).Alike (decodeOperate13 w') := by
  obtain ⟨hfn, hrc, hb⟩ := h
  unfold decodeOperate13
  rw [hfn, hrc, hra]
  generalize operand2Field w = b, operand2Field w' = b' at hb ⊢
  dsimp only
  split
  -- the overflow forms and `unknown`
  case h_4 | h_5 | h_6 => exact .decodeOnly rfl rfl
  all_goals cases hb <;> exact ⟨rfl, rfl, fun _ _ => rfl⟩

/-- `sextb` and `sextw` do not read `ra`, and the others of this primary are decode-only (R351, R352). -/
theorem decodeOperate1C_alike (h : SameOperate w w') : (decodeOperate1C w).Alike (decodeOperate1C w') := by
  obtain ⟨hfn, hrc, hb⟩ := h
  unfold decodeOperate1C
  rw [hfn, hrc]
  generalize operand2Field w = b, operand2Field w' = b' at hb ⊢
  dsimp only
  split
  case h_1 | h_2 => cases hb <;> exact ⟨rfl, rfl, fun _ _ => rfl⟩
  all_goals exact .decodeOnly rfl rfl

theorem decodeFloat14_alike (hfn : func11Field w = func11Field w') : (decodeFloat14 w).Alike (decodeFloat14 w') := by
  unfold decodeFloat14
  rw [hfn]
  dsimp only
  split
  case h_8 => exact .unknown w w'
  all_goals exact .ite (.decodeOnly rfl rfl) (.unknown w w')

theorem decodeFloat15_alike (hfn : func11Field w = func11Field w') : (decodeFloat15 w).Alike (decodeFloat15 w') := by
  unfold decodeFloat15
  rw [hfn]
  dsimp only
  split
  case h_18 => exact .unknown w w'
  all_goals exact .ite (.decodeOnly rfl rfl) (.unknown w w')

theorem decodeFloat16_alike (hfn : func11Field w = func11Field w') : (decodeFloat16 w).Alike (decodeFloat16 w') := by
  unfold decodeFloat16
  rw [hfn]
  dsimp only
  split
  case h_17 => exact .unknown w w'
  case h_13 => exact .ite (.decodeOnly rfl rfl) (.ite (.decodeOnly rfl rfl) (.unknown w w'))
  all_goals exact .ite (.decodeOnly rfl rfl) (.unknown w w')

theorem decodeFloat17_alike (hfn : func11Field w = func11Field w') : (decodeFloat17 w).Alike (decodeFloat17 w') := by
  unfold decodeFloat17
  rw [hfn]
  dsimp only
  split
  all_goals exact .decodeOnly rfl rfl

theorem decodeCompute18_alike (hfn : func16Field w = func16Field w') :
    (decodeCompute18 w).Alike (decodeCompute18 w') := by
  unfold decodeCompute18
  rw [hfn]
  dsimp only
  split
  all_goals exact .decodeOnly rfl rfl

theorem decodeJump1A_alike (hra : raField w = raField w') (hrb : rbField w = rbField w')
    (hhint : hintField w = hintField w') :
    (decodeJump1A w).Alike (decodeJump1A w') := by
  unfold decodeJump1A
  rw [hra, hrb, hhint]
  dsimp only
  split
  all_goals exact ⟨rfl, rfl, fun _ _ => rfl⟩

theorem decode_alike_of_low26Row {opc : BitVec 6} {f : BitVec 26 → Instr}
    (h : opcField w = opc) (h' : opcField w' = opc)
    (hrow : ∀ w, opcField w = opc → decode w = f (low26Field w)) (hf : ∀ low low', (f low).Alike (f low')) :
    (decode w).Alike (decode w') := by
  rw [hrow w h, hrow w' h']
  exact hf _ _

theorem decode_alike_of_low26 {opc : BitVec 6} (h : opcField w = opc) (h' : opcField w' = opc)
    (hopc : opc ∈ [0x00#6, 0x01#6, 0x02#6, 0x03#6, 0x04#6, 0x05#6, 0x06#6, 0x07#6, 0x19#6, 0x1B#6, 0x1D#6, 0x1E#6,
      0x1F#6]) : (decode w).Alike (decode w') := by
  fin_cases hopc
  all_goals
    exact decode_alike_of_low26Row h h' (fun w h => by rw [decode, h]; rfl) fun _ _ => .decodeOnly rfl rfl

/-- The four jumps have one meaning, whatever the hint and `jdisp` (R180). -/
theorem exec_decodeJump1A (w : InstrWord) (s : State) :
    exec (decodeJump1A w) s = execJmp (raField w) (rbField w) 0 s := by
  unfold decodeJump1A
  dsimp only
  split
  all_goals rfl

/-! ### Words that agree outside the ignored bits -/

/-- Words that agree outside a mask agree on every field the mask leaves alone. -/
theorem field_eq_of_agree {m : InstrWord} {a n : Nat} (h : w &&& ~~~m = w' &&& ~~~m) (hm : m.extractLsb' a n = 0) :
    w.extractLsb' a n = w'.extractLsb' a n := by
  apply BitVec.eq_of_getLsbD_eq
  intro i hi
  have hbit : m.getLsbD (a + i) = false := by
    simpa [hi] using congrArg (BitVec.getLsbD · i) hm
  have hword := congrArg (BitVec.getLsbD · (a + i)) h
  simp only [BitVec.getLsbD_extractLsb', hi, decide_true, Bool.true_and]
  by_cases hlt : a + i < 32
  · simpa only [BitVec.getLsbD_and, BitVec.getLsbD_not, hlt, hbit, decide_true, Bool.true_and, Bool.not_false,
      Bool.and_true] using hword
  · rw [BitVec.getLsbD_of_ge _ _ (by omega), BitVec.getLsbD_of_ge _ _ (by omega)]

theorem operand2Field_alike (hbit : w.extractLsb' 12 1 = w'.extractLsb' 12 1)
    (hlit : w.getLsbD 12 = true → w.extractLsb' 13 8 = w'.extractLsb' 13 8)
    (hreg : w.extractLsb' 16 5 = w'.extractLsb' 16 5) : (operand2Field w).Alike (operand2Field w') := by
  have hbit' : w'.getLsbD 12 = w.getLsbD 12 := by simp only [BitVec.getLsbD_eq_extractLsb', hbit]
  unfold operand2Field
  rw [hbit']
  split
  next hl => rw [hlit hl]; exact .same _
  next => rw [hreg]; exact .reg _ _ _

theorem decode_alike_of_operate (hopc : opcField w ∈ [0x10#6, 0x11#6, 0x12#6, 0x13#6, 0x1C#6])
    (h : w &&& ~~~ignoredBits w = w' &&& ~~~ignoredBits w) :
    opcField w = opcField w' ∧ (decode w).Alike (decode w') := by
  have hmask : ignoredBits w = (if w.getLsbD 12 then 0 else 0x0000E000#32) |||
      (if opcField w = 0x1C#6 ∧ func7Field w ∈ [0x00#7, 0x01#7] then 0x03E00000#32 else 0) := if_pos hopc
  rw [hmask] at h
  have ho : opcField w = opcField w' := field_eq_of_agree h (by split_ifs <;> rfl)
  have hfields : SameOperate w w' :=
    { func7 := field_eq_of_agree h (by split_ifs <;> rfl)
      rc := field_eq_of_agree h (by split_ifs <;> rfl)
      operand2 := operand2Field_alike (field_eq_of_agree h (by split_ifs <;> rfl))
        (fun hlit => field_eq_of_agree h (by rw [if_pos hlit]; split_ifs <;> rfl))
        (field_eq_of_agree h (by split_ifs <;> rfl)) }
  have hra (hne : opcField w ≠ 0x1C#6) : raField w = raField w' :=
    field_eq_of_agree h (by rw [if_neg (not_and.2 fun heq => absurd heq hne)]; split_ifs <;> rfl)
  refine ⟨ho, ?_⟩
  simp only [List.mem_cons, List.not_mem_nil, or_false] at hopc
  obtain hopc | hopc | hopc | hopc | hopc := hopc
  · rw [decode_eq_operate10 hopc, decode_eq_operate10 (ho ▸ hopc)]
    exact decodeOperate10_alike hfields (hra (by rw [hopc]; decide))
  · rw [decode_eq_operate11 hopc, decode_eq_operate11 (ho ▸ hopc)]
    exact decodeOperate11_alike hfields (hra (by rw [hopc]; decide))
  · rw [decode_eq_operate12 hopc, decode_eq_operate12 (ho ▸ hopc)]
    exact decodeOperate12_alike hfields (hra (by rw [hopc]; decide))
  · rw [decode_eq_operate13 hopc, decode_eq_operate13 (ho ▸ hopc)]
    exact decodeOperate13_alike hfields (hra (by rw [hopc]; decide))
  · rw [decode_eq_operate1C hopc, decode_eq_operate1C (ho ▸ hopc)]
    exact decodeOperate1C_alike hfields

theorem decode_alike_of_float (hopc : opcField w ∈ [0x14#6, 0x15#6, 0x16#6, 0x17#6]) (ho : opcField w = opcField w')
    (hfn : func11Field w = func11Field w') : (decode w).Alike (decode w') := by
  simp only [List.mem_cons, List.not_mem_nil, or_false] at hopc
  obtain hopc | hopc | hopc | hopc := hopc
  · rw [decode_eq_float14 hopc, decode_eq_float14 (ho ▸ hopc)]; exact decodeFloat14_alike hfn
  · rw [decode_eq_float15 hopc, decode_eq_float15 (ho ▸ hopc)]; exact decodeFloat15_alike hfn
  · rw [decode_eq_float16 hopc, decode_eq_float16 (ho ▸ hopc)]; exact decodeFloat16_alike hfn
  · rw [decode_eq_float17 hopc, decode_eq_float17 (ho ▸ hopc)]; exact decodeFloat17_alike hfn

/-- The classes of primaries are those of `ignoredBits`; the Memory and Branch Formats ignore nothing. -/
theorem decode_alike (h : w &&& ~~~ignoredBits w = w' &&& ~~~ignoredBits w) :
    w = w' ∨ opcField w = opcField w' ∧ (decode w).Alike (decode w') := by
  by_cases hoperate : opcField w ∈ [0x10#6, 0x11#6, 0x12#6, 0x13#6, 0x1C#6]
  · exact .inr (decode_alike_of_operate hoperate h)
  unfold ignoredBits at h
  dsimp only at h
  rw [if_neg hoperate] at h
  split_ifs at h with hjump hcompute hfloat hlow
  · have ho : opcField w = opcField w' := field_eq_of_agree h rfl
    refine .inr ⟨ho, ?_⟩
    rw [decode_eq_jump1A hjump, decode_eq_jump1A (ho ▸ hjump)]
    exact decodeJump1A_alike (field_eq_of_agree h rfl) (field_eq_of_agree h rfl) (field_eq_of_agree h rfl)
  · have ho : opcField w = opcField w' := field_eq_of_agree h rfl
    refine .inr ⟨ho, ?_⟩
    rw [decode_eq_compute18 hcompute, decode_eq_compute18 (ho ▸ hcompute)]
    exact decodeCompute18_alike (field_eq_of_agree h rfl)
  · have ho : opcField w = opcField w' := field_eq_of_agree h rfl
    exact .inr ⟨ho, decode_alike_of_float hfloat ho (field_eq_of_agree h rfl)⟩
  · have ho : opcField w = opcField w' := field_eq_of_agree h rfl
    exact .inr ⟨ho, decode_alike_of_low26 rfl ho.symm hlow⟩
  · have hall : ~~~(0 : InstrWord) = BitVec.allOnes 32 := rfl
    rw [hall, BitVec.and_allOnes, BitVec.and_allOnes] at h
    exact .inl h

end

theorem extractLsb'_extractLsb'_eq (w : InstrWord) (a : Nat) {n b k : Nat} (hle : b + k ≤ n) :
    (w.extractLsb' a n).extractLsb' b k = w.extractLsb' (a + b) k := by
  apply BitVec.eq_of_getLsbD_eq
  intro i hi
  have hlt : b + i < n := by omega
  simp only [BitVec.getLsbD_extractLsb', hi, hlt, decide_true, Bool.true_and, Nat.add_assoc]

/-- The record of a decode-only word carries the word itself (R422). -/
theorem exec_decode_of_not_executes {w : InstrWord} (h : (decode w).executes = false) (s : State) :
    exec (decode w) s = .next (s.raise (.unimplementedOpcode (s.pc - 4#64) (decode w).opcode w)) := by
  rw [exec_of_not_executes h, unimplemented, (decode_decoded w).encode_eq]
  rfl

/-- Settles O53: equal words are alike at once; for the others `decode_alike` gives the Opcode and the effect, and the
round trip gives the word of the record. The jumps have one meaning. (The name `ignoredBits` is the model's mask.) -/
theorem ignoredBits_irrelevant : Obligations.IgnoredBits := by
  refine ⟨fun w w' h => ?_, fun w w' hopc hregs s => ?_⟩
  · obtain rfl | ⟨ho, hop, hp, heffect⟩ := decode_alike h
    · exact ⟨rfl, fun _ _ => rfl, fun hnot s =>
        ⟨exec_decode_of_not_executes hnot s, exec_decode_of_not_executes hnot s⟩⟩
    · refine ⟨by rw [decodePair, decodePair, hop, ho], heffect, fun hnot s => ?_⟩
      have hnot' : (decode w').executes = false := by
        rw [Instr.executes_of_notPrefetch hp] at hnot
        rw [Instr.executes_of_notPrefetch (hop ▸ hp), ← hop, hnot]
      rw [exec_decode_of_not_executes hnot s, exec_decode_of_not_executes hnot' s, hop]
      exact ⟨rfl, rfl⟩
  · have hpart (b k : Nat) (hle : b + k ≤ 16) : w.extractLsb' (16 + b) k = w'.extractLsb' (16 + b) k := by
      rw [← extractLsb'_extractLsb'_eq w 16 hle, hregs, extractLsb'_extractLsb'_eq w' 16 hle]
    have ho : opcField w = opcField w' := hpart 10 6 (by decide)
    have hra : raField w = raField w' := hpart 5 5 (by decide)
    have hrb : rbField w = rbField w' := hpart 0 5 (by decide)
    rw [decode_eq_jump1A hopc, decode_eq_jump1A (ho ▸ hopc), exec_decodeJump1A, exec_decodeJump1A, hra, hrb]

/-! ### The Format table and the words of R121 -/

/-- Settles O55: the Format reads the primary opcode only, and its table has 64 rows. -/
theorem formatTable : Obligations.FormatTable := by
  intro w
  simp only [decodePair, opcField]
  generalize w.extractLsb' 26 6 = opc
  revert opc
  decide

/-- Settles O56: each word is decoded by evaluation. -/
theorem decodeWords : Obligations.DecodeWords := by
  refine ⟨?_, ?_, ?_, ?_, ?_, ?_, ?_, ?_, ?_, ?_⟩
  all_goals rfl

end Sys2Proof
end

section
/-! PROOFS. The step cycle (spec/40_step_cycle.md): operand 2 (R149), the order of halt test, pc check, fetch and
execution (R141 to R145), the executed set (R147, R148), and what one instruction and a faulting step change (R150 to
R152). -/

namespace Sys2Proof.Machine

/-! ### Operand 2 -/

/-- Settles O10: bit 12 selects the form, and the literal is below 256. -/
theorem operandTwo : Obligations.OperandTwo := by
  intro s w
  constructor
  · intro hreg
    have hform : operand2Field w = .reg (w.extractLsb' 16 5) (w.extractLsb' 13 3) :=
      if_neg (Bool.eq_false_iff.1 hreg)
    rw [hform]
    rfl
  · intro hlit
    have hform : operand2Field w = .lit (w.extractLsb' 13 8) := if_pos hlit
    rw [hform]
    exact BitVec.toNat_setWidth_of_le (by decide)

/-! ### How a step begins -/

theorem State.SameData.refl (s : State) : s.SameData s := ⟨fun _ => rfl, fun _ => rfl, rfl, rfl⟩

theorem State.sameData_halt (s : State) : s.SameData s.halt := ⟨fun _ => rfl, fun _ => rfl, rfl, rfl⟩

theorem State.sameData_setPc (s : State) (p : Word) : s.SameData (s.setPc p) := ⟨fun _ => rfl, fun _ => rfl, rfl, rfl⟩

theorem State.sameData_raise (s : State) (info : FaultRecord) : s.SameData (s.raise info) :=
  ⟨fun _ => rfl, fun _ => rfl, rfl, rfl⟩

theorem State.sameData_advance_raise (s : State) (info : FaultRecord) : s.SameData (s.advance.raise info) :=
  ⟨fun _ => rfl, fun _ => rfl, rfl, rfl⟩

/-- The whole frame of a fault (R421). -/
theorem State.raises_raise (s : State) (info : FaultRecord) : s.Raises (s.raise info) info :=
  ⟨s.sameData_raise info, rfl, rfl⟩

theorem State.begin_of_sentinel {s : State} (h : s.pc = s.cfg.sentinel) : s.begin = .halt := if_pos h

theorem State.begin_of_bad_pc {s : State} (hne : s.pc ≠ s.cfg.sentinel)
    (hbad : s.pc.toNat % 4 ≠ 0 ∨ ¬ s.cfg.InText s.pc) : s.begin = .fault (.invalidProgramCounter s.pc) :=
  (if_neg hne).trans (if_pos hbad)

theorem State.begin_of_not_fits {s : State} (hne : s.pc ≠ s.cfg.sentinel) (haligned : s.pc.toNat % 4 = 0)
    (htext : s.cfg.InText s.pc) (hfits : ¬ s.cfg.Fits s.pc.toNat 4) : s.begin = .fault (.addressError s.pc s.pc) := by
  rw [State.begin, if_neg hne, if_neg (not_or.2 ⟨not_not.2 haligned, not_not.2 htext⟩), State.memRead_of_not_fits hfits]

/-- A step that begins with a fault: the pc check failed, or the fetch did (R142, R143). -/
theorem State.begin_fault_cases {s : State} {info : FaultRecord} (h : s.begin = .fault info) :
    info = .invalidProgramCounter s.pc ∨ (info = .addressError s.pc s.pc ∧ ¬ s.cfg.Fits s.pc.toNat 4) := by
  obtain ⟨-, hb⟩ | ⟨-, -, hb⟩ | ⟨-, -, hfits, hb⟩ | ⟨-, -, -, hb⟩ := s.begin_cases
  · cases h.symm.trans hb
  · cases h.symm.trans hb
    exact .inl rfl
  · cases h.symm.trans hb
    exact .inr ⟨rfl, hfits⟩
  · cases h.symm.trans hb

/-- A step that runs an instruction has fetched its word from four bytes inside a region (R143, R145). -/
theorem State.begin_run {s : State} {i : Instr} (h : s.begin = .run i) :
    s.cfg.Fits s.pc.toNat 4 ∧ i = decode (BitVec.ofNat 32 (s.mem.readLE s.pc.toNat 4)) := by
  obtain ⟨-, hb⟩ | ⟨-, -, hb⟩ | ⟨-, -, -, hb⟩ | ⟨-, -, hfits, hb⟩ := s.begin_cases
  · cases h.symm.trans hb
  · cases h.symm.trans hb
  · cases h.symm.trans hb
  · cases h.symm.trans hb
    exact ⟨hfits, rfl⟩

/-- Four bytes make a 32-bit word. -/
theorem State.toNat_ofNat_readLE_word (s : State) (a : Nat) :
    (BitVec.ofNat 32 (s.mem.readLE a 4)).toNat = s.bytesAt a 4 := by
  have hlt : s.mem.readLE a 4 < 2 ^ 32 := Memory.readLE_lt _ _ 4
  rw [BitVec.toNat_ofNat, Nat.mod_eq_of_lt hlt, State.readLE_eq_bytesAt]

/-- The word fetched is the one whose four bytes stand at the pc: the bytes are those of memory with that word placed
there. -/
theorem State.ofNat_readLE_of_bytes {s : State} {w : InstrWord}
    (h : ∀ k : Nat, k < 4 → s.mem.read (s.pc.toNat + k) = w.extractLsb' (8 * k) 8) :
    BitVec.ofNat 32 (s.mem.readLE s.pc.toNat 4) = w := by
  have hbyte (k : Nat) (hk : k < 4) :
      s.mem.read (s.pc.toNat + k) = (s.placeAtPc (w.setWidth 64)).mem.read (s.pc.toNat + k) := by
    rw [h k hk, State.placeAtPc_mem, Memory.read_writeLE_inside _ _ _ _ _ hk,
      BitVec.extractLsb'_setWidth_of_le (by omega)]
  rw [Memory.readLE_congr _ _ _ _ hbyte, State.ofNat_readLE_placeAtPc,
    BitVec.extractLsb'_setWidth_of_le (by decide), BitVec.extractLsb'_eq_self]

/-! ### The step -/

theorem step_of_begin_halt {s : State} (hv : s.cfg.Valid) (hr : s.status = .running) (h : s.begin = .halt) :
    step s = .next s.halt := by
  rw [step_running s hv hr, h]

theorem step_of_begin_fault {s : State} {info : FaultRecord} (hv : s.cfg.Valid) (hr : s.status = .running)
    (h : s.begin = .fault info) : step s = .next (s.raise info) := by
  rw [step_running s hv hr, h]

theorem step_of_begin_run {s : State} {i : Instr} (hv : s.cfg.Valid) (hr : s.status = .running)
    (h : s.begin = .run i) : step s = exec i s.advance := by
  rw [step_running s hv hr, h]

/-- Settles O42: the checks pass, and the four bytes read make up the word. -/
theorem stepRunsDecodedInstruction : Obligations.StepRunsDecodedInstruction := by
  intro s w i hv hr hne haligned htext hfits hbytes hdecode
  have hbegin : s.begin = .run i := by
    rw [State.begin_of_fits hne haligned htext hfits, State.ofNat_readLE_of_bytes hbytes, hdecode]
  exact step_of_begin_run hv hr hbegin

/-- Settles O43: the first two tests of a step, in their order. -/
theorem haltTestAndPcCheck : Obligations.HaltTestAndPcCheck := by
  intro s hv hr
  constructor
  · intro hsentinel
    exact ⟨_, step_of_begin_halt hv hr (State.begin_of_sentinel hsentinel), rfl, s.sameData_halt, rfl⟩
  · intro hne hbad
    exact ⟨_, step_of_begin_fault hv hr (State.begin_of_bad_pc hne hbad), s.raises_raise _⟩

/-- Settles O44: the third test of a step. -/
theorem fetchAddressError : Obligations.FetchAddressError := by
  intro s hv hr hne haligned htext hfits
  exact ⟨_, step_of_begin_fault hv hr (State.begin_of_not_fits hne haligned htext hfits), s.raises_raise _⟩

theorem step_of_halted {s : State} (hv : s.cfg.Valid) (h : s.status = .halted) : step s = .fault .runHalted := by
  rw [step, if_pos hv, h]

theorem step_of_faulted {s : State} {info : FaultRecord} (hv : s.cfg.Valid) (h : s.status = .faulted info) :
    step s = .fault (.runFaulted info) := by
  rw [step, if_pos hv, h]

/-- Under a valid configuration a running machine always has a next state: none of the three ways to begin a step
fails, and every instruction completes. -/
theorem step_next_of_running {s : State} (hv : s.cfg.Valid) (hr : s.status = .running) : ∃ t, step s = .next t := by
  cases h : s.begin with
  | halt => exact ⟨_, step_of_begin_halt hv hr h⟩
  | fault info => exact ⟨_, step_of_begin_fault hv hr h⟩
  | run i =>
    rw [step_of_begin_run hv hr h]
    exact exec_next i s.advance

/-- Settles O45: only a running machine has a next state (`step_cases`), and it always has one. -/
theorem runEnds : Obligations.RunEnds := by
  intro s hv
  refine ⟨⟨?_, step_next_of_running hv⟩, step_of_halted hv, fun info => step_of_faulted hv⟩
  rintro ⟨t, ht⟩
  obtain ⟨-, hr, -⟩ := step_cases s t ht
  exact hr

/-! ### A faulting step -/

/-- An instruction that leaves the status as it was, or that raises a fault and does nothing else (R152). -/
theorem exec_status_cases {i : Instr} {s t : State} (h : exec i s = .next t) :
    t.status = s.status ∨ ∃ info, t = s.raise info ∧
      ((∃ ea, info = .addressError s.cur ea) ∨ info = .unimplementedOpcode s.cur i.opcode (encode i)) := by
  have heffect : Effect i s (.next t) := h ▸ exec_effect i s
  cases heffect with
  | nothing => exact .inl rfl
  | register _ r v => exact .inl (s.setReg_status r v)
  | jump _ p => exact .inl rfl
  | link _ r p => exact .inl (s.setReg_status r s.npc)
  | memory _ n ra ea _ _ hw =>
    obtain ⟨-, -, rfl⟩ | ⟨-, -, rfl⟩ := State.memWrite_cases _ _ _ _ _ hw
    · exact .inl rfl
    · exact .inl rfl
  | address _ ea => exact .inr ⟨_, rfl, .inl ⟨ea, rfl⟩⟩
  | opcode => exact .inr ⟨_, rfl, .inr rfl⟩

/-- The four ways a step faults, each with its record and its state: the pc check and the fetch leave the pc alone, a
data access and a decode-only instruction fault after the advance. -/
theorem step_faulted_cases {s t : State} {info : FaultRecord} (h : step s = .next t) (hf : t.status = .faulted info) :
    (info = .invalidProgramCounter s.pc ∧ t = s.raise info) ∨
    (info = .addressError s.pc s.pc ∧ ¬ s.cfg.Fits s.pc.toNat 4 ∧ t = s.raise info) ∨
    ((∃ ea, info = .addressError s.pc ea) ∧ s.cfg.Fits s.pc.toNat 4 ∧ t = s.advance.raise info) ∨
    (∃ w, info = .unimplementedOpcode s.pc (decode w).opcode w ∧ w.toNat = s.bytesAt s.pc.toNat 4 ∧
      t = s.advance.raise info) := by
  obtain ⟨-, hr, ⟨-, rfl⟩ | ⟨info', hbegin, rfl⟩ | ⟨i, hbegin, hexec⟩⟩ := step_cases s t h
  · cases hf
  · cases hf
    obtain hpc | ⟨haddr, hfits⟩ := State.begin_fault_cases hbegin
    · exact .inl ⟨hpc, rfl⟩
    · exact .inr (.inl ⟨haddr, hfits, rfl⟩)
  · obtain ⟨hfits, rfl⟩ := State.begin_run hbegin
    obtain hkept | ⟨info', rfl, hinfo⟩ := exec_status_cases hexec
    · rw [hkept, State.advance_status, hr] at hf
      cases hf
    · cases hf
      rw [State.advance_cur, (decode_decoded _).encode_eq] at hinfo
      obtain haddr | hop := hinfo
      · exact .inr (.inr (.inl ⟨haddr, hfits, rfl⟩))
      · exact .inr (.inr (.inr ⟨_, hop, s.toNat_ofNat_readLE_word _, rfl⟩))

/-- Settles O48: each of the four ways a step faults has the cause, the pc and the record that are claimed. -/
theorem faultsArePrecise : Obligations.FaultsArePrecise := by
  intro s t info h hf
  obtain ⟨rfl, rfl⟩ | ⟨rfl, hfits, rfl⟩ | ⟨⟨ea, rfl⟩, hfits, rfl⟩ | ⟨w, rfl, hw, rfl⟩ := step_faulted_cases h hf
  · exact ⟨rfl, s.sameData_raise _, fun _ => rfl, nofun, nofun, nofun⟩
  · exact ⟨rfl, s.sameData_raise _, nofun, fun _ => (if_neg hfits).symm, nofun, nofun⟩
  · exact ⟨rfl, s.sameData_advance_raise _, nofun, fun _ => (if_pos hfits).symm, nofun, nofun⟩
  · refine ⟨rfl, s.sameData_advance_raise _, nofun, nofun, fun _ => rfl, fun pc op w' heq => ?_⟩
    cases heq
    exact ⟨rfl, hw⟩

/-! ### One effect per instruction -/

/-- What one instruction may change (R151): one register, one of memory and output and those only by a store, the pc
only by a branch or a jump. -/
structure OneEffect (i : Instr) (s t : State) : Prop where
  register : ∃ r : Reg, ∀ q : Reg, q ≠ r → t.reg q = s.reg q
  memoryOrOutput : (∀ a, t.mem.read a = s.mem.read a) ∨ t.out = s.out
  notStore : i.opcode ∉ storeOpcodes → (∀ a, t.mem.read a = s.mem.read a) ∧ t.out = s.out
  store : i.opcode ∈ storeOpcodes → ∀ q : Reg, t.reg q = s.reg q
  pc : i.opcode ∉ executedBranch → t.pc = s.pc
  config : t.cfg = s.cfg

theorem not_mem_storeOpcodes_of_executedBranch : ∀ op ∈ executedBranch, op ∉ storeOpcodes := by decide

theorem OneEffect.of_sameData {i : Instr} {s t : State} (h : s.SameData t)
    (hpc : i.opcode ∉ executedBranch → t.pc = s.pc) : OneEffect i s t where
  register := ⟨31#5, fun q _ => h.registers q⟩
  memoryOrOutput := .inl h.memory
  notStore _ := ⟨h.memory, h.output⟩
  store _ := h.registers
  pc := hpc
  config := h.config

theorem OneEffect.of_setReg {i : Instr} {s : State} (h : i.opcode ∉ storeOpcodes) (r : Reg) (v : Word) :
    OneEffect i s (s.setReg r v) where
  register := ⟨r, fun _ hq => State.reg_setReg_ne s r _ v hq⟩
  memoryOrOutput := .inr (s.setReg_out r v)
  notStore _ := by simp
  store hs := absurd hs h
  pc _ := s.setReg_pc r v
  config := s.setReg_cfg r v

theorem OneEffect.of_memWrite {i : Instr} {s t : State} {ea : Word} {n : Nat} {v : Word} (h : i.opcode ∈ storeOpcodes)
    (hw : s.memWrite ea n v = some t) : OneEffect i s t := by
  obtain ⟨-, -, rfl⟩ | ⟨-, -, rfl⟩ := State.memWrite_cases _ _ _ _ _ hw
  · exact ⟨⟨31#5, fun _ _ => rfl⟩, .inl fun _ => rfl, fun hn => absurd h hn, fun _ _ => rfl, fun _ => rfl, rfl⟩
  · exact ⟨⟨31#5, fun _ _ => rfl⟩, .inr rfl, fun hn => absurd h hn, fun _ _ => rfl, fun _ => rfl, rfl⟩

/-- A branch or a jump may besides set the pc. -/
theorem OneEffect.setPc {i : Instr} {s t : State} (h : OneEffect i s t) (hi : i.opcode ∈ executedBranch) (p : Word) :
    OneEffect i s (t.setPc p) :=
  { h with pc := fun hn => absurd hi hn }

theorem Effect.oneEffect {i : Instr} {s t : State} (h : Effect i s (.next t)) : OneEffect i s t := by
  cases h with
  | nothing => exact .of_sameData (.refl s) fun _ => rfl
  | register hs r v => exact .of_setReg hs r v
  | jump hb p => exact .of_sameData (s.sameData_setPc p) fun hn => absurd hb hn
  | link hb r p => exact (OneEffect.of_setReg (not_mem_storeOpcodes_of_executedBranch _ hb) r s.npc).setPc hb p
  | memory hs n ra ea _ _ hw => exact .of_memWrite hs hw
  | address _ ea => exact .of_sameData (s.sameData_raise _) fun _ => rfl
  | opcode => exact .of_sameData (s.sameData_raise _) fun _ => rfl

/-- Settles O49: every instruction completes, and each effect an instruction can have changes that much only. -/
theorem oneEffectPerInstruction : Obligations.OneEffectPerInstruction := by
  intro i s
  obtain ⟨t, ht⟩ := exec_next i s
  obtain ⟨hreg, hmemout, hnotStore, hstore, hpc, hcfg⟩ : OneEffect i s t := (ht ▸ exec_effect i s).oneEffect
  exact ⟨t, ht, hreg, hmemout, hnotStore, hstore, hpc, hcfg⟩

/-! ### The executed set -/

/-- The outcomes of executed instructions (R147): an Operate instruction writes its `rc` or does nothing; the others,
of the Branch, MemoryBranch and Memory Formats, keep the status or raise AddressError. -/
inductive Performs (i : Instr) (s : State) : Outcome → Prop
  | nothing : Performs i s (.next s)
  | operate (v : Word) : Performs i s (operate (rcField (encode i)) v s)
  | keeps (h : i.opcode ∈ executedBranch ++ executedMemory) (t : State) (ht : t.status = s.status) :
      Performs i s (.next t)
  | address (h : i.opcode ∈ executedBranch ++ executedMemory) (ea : Word) :
      Performs i s (.next (s.raise (.addressError s.cur ea)))

section
variable {i : Instr} {rc : Reg} (s : State)

theorem operate_performs (hrc : rcField (encode i) = rc) (v : Word) : Performs i s (operate rc v s) := by
  subst hrc
  exact .operate v

theorem condMove_performs (hrc : rcField (encode i) = rc) (cond : Bool) (b : Operand2) :
    Performs i s (condMove cond b rc s) := by
  cases cond with
  | false => exact .nothing
  | true => exact operate_performs s hrc (s.operand2 b)

theorem branchIf_performs (cond : Bool) (disp : BitVec 21) (h : i.opcode ∈ executedBranch ++ executedMemory) :
    Performs i s (branchIf cond disp s) := by
  cases cond with
  | false => exact .nothing
  | true => exact .keeps h _ rfl

theorem linkAndGo_performs (ra : Reg) (t : Word) (h : i.opcode ∈ executedBranch ++ executedMemory) :
    Performs i s (linkAndGo ra t s) := .keeps h _ (s.setReg_status ra s.npc)

theorem load_performs (n : Nat) (ext : Word → Word) (ra : Reg) (ea : Word)
    (h : i.opcode ∈ executedBranch ++ executedMemory) : Performs i s (load n ext ra ea s) := by
  unfold load
  split
  · exact .nothing
  · split
    · exact .keeps h _ (s.setReg_status ra _)
    · exact .address h ea

theorem store_performs (n : Nat) (ra : Reg) (ea : Word) (h : i.opcode ∈ executedBranch ++ executedMemory) :
    Performs i s (store n ra ea s) := by
  unfold store
  split
  next t hw =>
    obtain ⟨-, -, rfl⟩ | ⟨-, -, rfl⟩ := State.memWrite_cases _ _ _ _ _ hw
    · exact .keeps h _ rfl
    · exact .keeps h _ rfl
  next => exact .address h ea

end

theorem Instr.mem_of_executes {i : Instr} (h : i.executes = true) :
    i.opcode ∈ executedOpcodes ++ prefetchOpcodes := by
  rw [Instr.executes, Bool.or_eq_true, Bool.and_eq_true, List.contains_iff_mem, List.contains_iff_mem] at h
  exact List.mem_append.2 (h.imp_right And.left)

/-- The decode-only Opcodes of the Memory and Branch Formats, which `Opcode.mayExecute` does not tell apart. -/
def decodeOnlyTransfers : List Opcode :=
  [.ldf, .ldg, .stf, .stg, .sts, .stt, .ldlL, .ldqL, .stlC, .stqC, .fbeq, .fblt, .fble, .fbne, .fbge, .fbgt]

theorem not_mem_executed : ∀ op ∈ decodeOnlyTransfers, op ∉ executedOpcodes ++ prefetchOpcodes := by decide

/-- The groups are those of R147, each with the operation its instructions share; the last two cases are the
instructions that are not executed. -/
theorem exec_performs {i : Instr} (h : i.executes = true) (s : State) : Performs i s (exec i s) := by
  cases i
  case addl | s4addl | s8addl | subl | s4subl | s8subl | addq | s4addq | s8addq | subq | s4subq | s8subq |
    cmpbge | cmpeq | cmplt | cmple | cmpult | cmpule | mull | mulq | umulh | sextb | sextw =>
    refine operate_performs s ?_ _
    exact rcField_operateWord ..
  case and | bic | bis | ornot | xor | eqv =>
    refine operate_performs s ?_ _
    exact rcField_operateWord ..
  case cmoveq | cmovne | cmovlt | cmovge | cmovle | cmovgt | cmovlbs | cmovlbc =>
    refine condMove_performs s ?_ _ _
    exact rcField_operateWord ..
  case sll | srl | sra | zap | zapnot | mskbl | mskwl | mskll | mskql | mskwh | msklh | mskqh | insbl | inswl |
    insll | insql | inswh | inslh | insqh | extbl | extwl | extll | extql | extwh | extlh | extqh =>
    refine operate_performs s ?_ _
    exact rcField_operateWord ..
  case beq | bne | blt | ble | bgt | bge | blbc | blbs => exact branchIf_performs s _ _ (List.contains_iff_mem.1 rfl)
  case br | bsr | jmp | jsr | ret | jsrCoroutine => exact linkAndGo_performs s _ _ (List.contains_iff_mem.1 rfl)
  case lda | ldah => exact .keeps (List.contains_iff_mem.1 rfl) _ (s.setReg_status _ _)
  case ldbu | ldwu | ldl | ldq | ldqU => exact load_performs s _ _ _ _ (List.contains_iff_mem.1 rfl)
  case stb | stw | stl | stq | stqU => exact store_performs s _ _ _ (List.contains_iff_mem.1 rfl)
  case lds fa rb disp | ldt fa rb disp =>
    have hfa : (raField (memoryWord _ fa rb disp) == 31#5) = true := h
    rw [raField_memoryWord, beq_iff_eq] at hfa
    subst hfa
    exact .nothing
  case ldf | ldg | stf | stg | sts | stt | ldlL | ldqL | stlC | stqC | fbeq | fblt | fble | fbne | fbge | fbgt =>
    exact absurd (Instr.mem_of_executes h) (not_mem_executed _ (List.contains_iff_mem.1 rfl))
  all_goals exact absurd (Opcode.mayExecute_of_mem _ (Instr.mem_of_executes h)) Bool.false_ne_true

theorem Performs.next_not_unimplemented {i : Instr} {s : State} {o : Outcome} (h : Performs i s o)
    (hr : s.status = .running) :
    ∃ t, o = .next t ∧ ¬ ∃ pc op w, t.status = .faulted (.unimplementedOpcode pc op w) := by
  have of_status {t : State} (ht : t.status = s.status) :
      ¬ ∃ pc op w, t.status = .faulted (.unimplementedOpcode pc op w) := by
    rw [ht, hr]
    nofun
  cases h with
  | nothing => exact ⟨_, rfl, of_status rfl⟩
  | operate v => exact ⟨_, rfl, of_status (s.setReg_status _ v)⟩
  | keeps _ t ht => exact ⟨_, rfl, of_status ht⟩
  | address _ ea => exact ⟨_, rfl, nofun⟩

/-- Settles O40: outside the executed set the fault is raised at once, and no executed instruction raises it. -/
theorem executedSet : Obligations.ExecutedSet := by
  intro i s hr
  cases hexecutes : i.executes with
  | false =>
    rw [exec_of_not_executes hexecutes]
    exact ⟨_, rfl, iff_of_true ⟨_, _, _, rfl⟩ rfl⟩
  | true =>
    obtain ⟨t, ht, hnot⟩ := (exec_performs hexecutes s).next_not_unimplemented hr
    exact ⟨t, ht, iff_of_false hnot Bool.noConfusion⟩

/-! ### Operate instructions with destination 31 -/

theorem executedOperate_subset : executedArith ++ executedLogical ++ executedShift ⊆ executedOpcodes :=
  List.append_subset.2 ⟨List.append_subset.2 ⟨executedArith_subset, executedLogical_subset⟩, executedShift_subset⟩

theorem not_mem_executedOperate :
    ∀ op ∈ executedBranch ++ executedMemory, op ∉ executedArith ++ executedLogical ++ executedShift := by decide

theorem Instr.executes_of_mem {i : Instr} (h : i.opcode ∈ executedOpcodes) : i.executes = true := by
  rw [Instr.executes, List.contains_iff_mem.2 h, Bool.true_or]

theorem Performs.eq_next_of_rc31 {i : Instr} {s : State} {o : Outcome} (h : Performs i s o)
    (hi : i.opcode ∈ executedArith ++ executedLogical ++ executedShift) (hrc : rcField (encode i) = 31#5) :
    o = .next s := by
  cases h with
  | nothing => rfl
  | operate v => rw [hrc, Machine.operate, State.setReg_zero]
  | keeps hother => exact absurd hi (not_mem_executedOperate _ hother)
  | address hother => exact absurd hi (not_mem_executedOperate _ hother)

/-- Settles O24: an executed Operate instruction writes its `rc` or does nothing, and a write to register 31 is
dropped. -/
theorem operateDestination31 : Obligations.OperateDestination31 := by
  intro i s hi hrc
  have hexecutes : i.executes = true := Instr.executes_of_mem (executedOperate_subset hi)
  exact (exec_performs hexecutes s).eq_next_of_rc31 hi hrc

end Sys2Proof.Machine
end

section
/-! PROOFS. The Branch format (spec/41_branch.md): the target (R160), the unconditional branches (R162 to R164), the
conditional branches (R165 to R172) and the floating branches (R173 to R179). -/

namespace Sys2Proof.Machine

/-! ### The target and the tests -/

/-- The target as an exact integer modulo 2^64 (R160): `wrap` is additive and multiplicative. -/
theorem State.branchTarget_eq_wrap (s : State) (disp : BitVec 21) :
    s.branchTarget disp = wrap (s.pc.toNat + disp.toInt * 4) := by
  rw [wrap, BitVec.ofInt_add, BitVec.ofInt_mul, BitVec.ofInt_natCast, BitVec.ofNat_toNat, BitVec.setWidth_eq]
  rfl

section
variable (v : Word)

theorem isZero_iff : isZero v = true ↔ v.toNat = 0 :=
  beq_iff_eq.trans BitVec.toNat_inj.symm

theorem not_isZero_iff : (!isZero v) = true ↔ v.toNat ≠ 0 := by
  rw [Bool.not_eq_true', ← Bool.not_eq_true, isZero_iff]

theorem isNegative_iff : isNegative v = true ↔ v.toInt < 0 := decide_eq_true_iff

theorem isNotPositive_iff : isNotPositive v = true ↔ v.toInt ≤ 0 := decide_eq_true_iff

theorem isPositive_iff : isPositive v = true ↔ 0 < v.toInt := decide_eq_true_iff

theorem isNotNegative_iff : isNotNegative v = true ↔ 0 ≤ v.toInt := decide_eq_true_iff

theorem lowBitSet_iff : lowBitSet v = true ↔ v.toNat % 2 = 1 := by
  rw [lowBitSet, BitVec.getLsbD, Nat.testBit_zero, decide_eq_true_iff]

theorem not_lowBitSet_iff : (!lowBitSet v) = true ↔ v.toNat % 2 = 0 := by
  rw [Bool.not_eq_true', ← Bool.not_eq_true, lowBitSet_iff, Nat.mod_two_not_eq_one]

end

/-! ### The frames of the transfers -/

/-- The whole frame of a link and a transfer, `ra` = 31 included (R162, R180). -/
theorem State.sets_link (s : State) (ra : Reg) (v p : Word) : s.Sets ((s.setReg ra v).setPc p) ra v p where
  value h := s.reg_setReg_self ra v h
  zero := State.reg_zero _
  others q h := s.reg_setReg_ne ra q v h
  pc := rfl
  memory _ := congrArg (Memory.read · _) (s.setReg_mem ra v)
  output := s.setReg_out ra v
  status := s.setReg_status ra v
  config := s.setReg_cfg ra v

theorem State.goesTo_setPc (s : State) (p : Word) : s.GoesTo (s.setPc p) p := ⟨s.sameData_setPc p, rfl, rfl⟩

theorem State.idle_self (s : State) : s.Idle s := ⟨.refl s, rfl, rfl⟩

/-! ### The shapes of the rules -/

section
variable {i : Instr} {s : State}

/-- The word of a well-formed instruction is that instruction, so only the effect is left to show. -/
theorem Runs.of_exec {t : State} {P : State → Prop} (hwf : i.wellFormed = true) (hexec : exec i s = .next t)
    (ht : P t) : Runs (encode i) i s P :=
  ⟨decode_encode i hwf, t, hexec, ht⟩

theorem runs_of_linkAndGo {ra : Reg} {target : Word} (hwf : i.wellFormed = true)
    (hexec : exec i s = linkAndGo ra target s) : Runs (encode i) i s (fun t => s.Sets t ra s.pc target) :=
  .of_exec hwf hexec (s.sets_link ra s.pc target)

theorem branchRule_of_branchIf {disp : BitVec 21} {test : Bool} {cond : Prop} (hwf : i.wellFormed = true)
    (hexec : exec i s = branchIf test disp s) (htest : test = true ↔ cond) :
    BranchRule (encode i) i s cond (wrap (s.pc.toNat + disp.toInt * 4)) := by
  rw [← s.branchTarget_eq_wrap]
  refine .of_exec hwf hexec ⟨fun hcond => ?_, fun hcond => ?_⟩
  · rw [if_pos (htest.2 hcond)]
    exact s.goesTo_setPc _
  · rw [if_neg (mt htest.1 hcond)]
    exact s.idle_self

end

theorem Instr.executes_eq_false_of_not_mem {i : Instr} (h : i.opcode ∉ executedOpcodes ++ prefetchOpcodes) :
    i.executes = false :=
  Bool.eq_false_iff.2 (mt Instr.mem_of_executes h)

/-- Opcodes outside the tables of R147 are decode-only: the record has the instruction's own word (R148, R422). -/
theorem decodeOnlyRule_of_not_mem {ops : List Opcode} (h : ∀ op ∈ ops, op ∉ executedOpcodes ++ prefetchOpcodes) :
    DecodeOnlyRule ops := by
  intro s
  constructor
  · intro i hi
    exact ⟨_, exec_of_not_executes (Instr.executes_eq_false_of_not_mem (h _ hi)) s, s.raises_raise _⟩
  · intro w hw
    exact ⟨_, exec_decode_of_not_executes (Instr.executes_eq_false_of_not_mem (h _ hw)) s, s.raises_raise _⟩

/-! ### The statements -/

/-- Settles O32: both link and go to the target of R160. -/
theorem linkBranches : Obligations.LinkBranches := by
  intro s ra disp
  rw [← s.branchTarget_eq_wrap]
  exact ⟨runs_of_linkAndGo (i := .br ra disp) rfl rfl, runs_of_linkAndGo (i := .bsr ra disp) rfl rfl⟩

/-- Settles O33: each is `branchIf` of its test, and the test says what the rule says. -/
theorem conditionalBranches : Obligations.ConditionalBranches := by
  intro s ra disp v target
  refine ⟨?beq, ?bne, ?blt, ?ble, ?bgt, ?bge, ?blbc, ?blbs⟩
  case beq => exact branchRule_of_branchIf (i := .beq ra disp) rfl rfl (isZero_iff v)
  case bne => exact branchRule_of_branchIf (i := .bne ra disp) rfl rfl (not_isZero_iff v)
  case blt => exact branchRule_of_branchIf (i := .blt ra disp) rfl rfl (isNegative_iff v)
  case ble => exact branchRule_of_branchIf (i := .ble ra disp) rfl rfl (isNotPositive_iff v)
  case bgt => exact branchRule_of_branchIf (i := .bgt ra disp) rfl rfl (isPositive_iff v)
  case bge => exact branchRule_of_branchIf (i := .bge ra disp) rfl rfl (isNotNegative_iff v)
  case blbc => exact branchRule_of_branchIf (i := .blbc ra disp) rfl rfl (not_lowBitSet_iff v)
  case blbs => exact branchRule_of_branchIf (i := .blbs ra disp) rfl rfl (lowBitSet_iff v)

/-- Settles O35: the six are the last of the Memory and Branch Opcodes without execution semantics. -/
theorem floatBranches : Obligations.FloatBranches :=
  have hsubset : [.fbeq, .fblt, .fble, .fbne, .fbge, .fbgt] ⊆ decodeOnlyTransfers :=
    List.drop_subset 10 decodeOnlyTransfers
  decodeOnlyRule_of_not_mem fun op hop => not_mem_executed op (hsubset hop)

end Sys2Proof.Machine
end

section
/-! PROOFS. The MemoryBranch format (spec/42_memory_branch.md): the four jumps (R180 to R184) and the return to the
sentinel (R185). -/

namespace Sys2Proof.Machine

/-- The jumps differ in the hint only, which has no effect (R180). -/
theorem exec_of_mem_jumps (s : State) (ra rb : Reg) (jdisp : BitVec 14) :
    ∀ i ∈ [Instr.jmp ra rb jdisp, .jsr ra rb jdisp, .ret ra rb jdisp, .jsrCoroutine ra rb jdisp],
      exec i s = linkAndGo ra (s.reg rb) s := by
  intro i hi
  simp only [List.mem_cons, List.not_mem_nil, or_false] at hi
  obtain rfl | rfl | rfl | rfl := hi
  all_goals rfl

/-- Whatever brings the pc to the sentinel, with the status and the configuration kept, the next step halts (R185). -/
theorem State.Sets.next_step_halts {s t : State} {r : Reg} {v : Word} (h : s.Sets t r v s.cfg.sentinel)
    (hv : s.cfg.Valid) (hr : s.status = .running) :
    ∃ u, step t = .next u ∧ u.status = .halted ∧ t.SameData u ∧ u.pc = t.pc := by
  have hvalid : t.cfg.Valid := by rwa [h.config]
  have hrunning : t.status = .running := h.status.trans hr
  have hsentinel : t.pc = t.cfg.sentinel := by rw [h.pc, h.config]
  obtain ⟨hhalts, -⟩ := haltTestAndPcCheck t hvalid hrunning
  exact hhalts hsentinel

/-! ### The statements -/

/-- Settles O36: each links and goes to `x[rb]`, read in the state before the link (R180). -/
theorem jumps : Obligations.Jumps := by
  intro s ra rb jdisp
  refine ⟨?jmp, ?jsr, ?ret, ?jsrCoroutine⟩
  case jmp => exact runs_of_linkAndGo (i := .jmp ra rb jdisp) rfl rfl
  case jsr => exact runs_of_linkAndGo (i := .jsr ra rb jdisp) rfl rfl
  case ret => exact runs_of_linkAndGo (i := .ret ra rb jdisp) rfl rfl
  case jsrCoroutine => exact runs_of_linkAndGo (i := .jsrCoroutine ra rb jdisp) rfl rfl

/-- Settles O37: the jump sets the pc to the sentinel it found in `rb`, and the next step finds it there. -/
theorem jumpToSentinelHalts : Obligations.JumpToSentinelHalts := by
  intro s ra rb jdisp hv hr hbase i hi
  have hexec : exec i s = linkAndGo ra s.cfg.sentinel s := by rw [exec_of_mem_jumps s ra rb jdisp i hi, hbase]
  exact ⟨_, hexec, (s.sets_link ra s.npc s.cfg.sentinel).next_step_halts hv hr⟩

end Sys2Proof.Machine
end

section
/-! PROOFS. The Memory format (spec/43_memory.md): the addresses as exact integers (R190, R203), `lda` and `ldah`
(R195, R196), the loads and stores (R197 to R200, R203, R205 to R209), and the instructions that raise
UnimplementedOpcode (R210 to R221). -/

namespace Sys2Proof.Machine

/-! ### Addresses -/

/-- A 64-bit sum is the exact sum modulo 2^64. -/
theorem wrap_toNat_add (v : Word) (r : Int) : wrap (v.toNat + r) = v + wrap r := by
  rw [wrap, BitVec.ofInt_add, BitVec.ofInt_natCast, BitVec.ofNat_toNat, BitVec.setWidth_eq, wrap]

/-- The effective address as an exact integer modulo 2^64 (R190): sign extension to 64 bits is `wrap`. -/
theorem State.effAddr_eq_wrap (s : State) (rb : Reg) (disp : BitVec 16) :
    s.effAddr rb disp = wrap ((s.reg rb).toNat + disp.toInt) :=
  (wrap_toNat_add (s.reg rb) disp.toInt).symm

/-- The value of `ldah` as an exact integer modulo 2^64: the sign is extended before the scaling (R196). -/
theorem State.reg_add_highDisp_eq_wrap (s : State) (rb : Reg) (disp : BitVec 16) :
    s.reg rb + highDisp disp = wrap ((s.reg rb).toNat + disp.toInt * 65536) := by
  rw [wrap_toNat_add, wrap, BitVec.ofInt_mul]
  rfl

/-- Clearing the low three bits is a shift right and back (R203). -/
theorem toNat_alignQuad (ea : Word) : (alignQuad ea).toNat = ea.toNat / 8 * 8 := by
  have hshift : alignQuad ea = ea >>> 3 <<< 3 := (BitVec.shiftLeft_ushiftRight (n := 3)).symm
  have hlt := ea.isLt
  rw [hshift, BitVec.toNat_shiftLeft, BitVec.toNat_ushiftRight, Nat.shiftRight_eq_div_pow, Nat.shiftLeft_eq]
  omega

/-! ### What the loads make of the bytes read (R191) -/

/-- A value already below `2 ^ k` is its own zero extension from `k` bits. -/
theorem zeroExtend_ofNat {k v : Nat} (hk : k ≤ 64) (hv : v < 2 ^ k) :
    ((BitVec.ofNat 64 v).setWidth k).setWidth 64 = BitVec.ofNat 64 v := by
  rw [BitVec.setWidth_ofNat_of_le hk, BitVec.setWidth_ofNat_of_le_of_lt hk hv]

/-- The sign extension of `ldl` is the exact one of R6. -/
theorem sextLong_ofNat (v : Nat) : sextLong (BitVec.ofNat 64 v) = longResult v := by
  rw [sextLong, BitVec.setWidth_ofNat_of_le (by decide), BitVec.signExtend, BitVec.toInt_ofNat', longResult]

theorem State.bytesAt_lt (s : State) (a n : Nat) : s.bytesAt a n < 256 ^ n :=
  s.readLE_eq_bytesAt a n ▸ Memory.readLE_lt s.mem a n

/-! ### The cases of `load` and `store` -/

section
variable {s : State} {ra : Reg} {a : Word} {n : Nat} {ext : Word → Word}

theorem load_zero : load n ext 31#5 a s = .next s := if_pos rfl

theorem load_of_fits (hra : ra ≠ 31#5) (h : s.cfg.Fits a.toNat n) :
    load n ext ra a s = .next (s.setReg ra (ext (BitVec.ofNat 64 (s.bytesAt a.toNat n)))) := by
  rw [load, if_neg hra, State.memRead_of_fits h, s.readLE_eq_bytesAt]

theorem load_of_not_fits (hra : ra ≠ 31#5) (h : ¬ s.cfg.Fits a.toNat n) :
    load n ext ra a s = .next (s.raise (.addressError s.cur a)) := by
  rw [load, if_neg hra, State.memRead_of_not_fits h]

theorem store_port : store 1 ra outputAddr s = .next (s.emit ((s.reg ra).setWidth 8)) := by
  rw [store, State.memWrite_port]

theorem store_of_not_fits (hport : ¬ (n = 1 ∧ a = outputAddr)) (h : ¬ s.cfg.Fits a.toNat n) :
    store n ra a s = .next (s.raise (.addressError s.cur a)) := by
  rw [store, State.memWrite_of_not_fits hport h]

end

/-- The whole frame of a register write, register 31 included. -/
theorem State.sets_setReg (s : State) (r : Reg) (v : Word) : s.Sets (s.setReg r v) r v s.pc := by
  have hkept : (s.setReg r v).setPc s.pc = s.setReg r v := by
    rw [← s.setReg_pc r v]
    rfl
  exact hkept ▸ s.sets_link r v s.pc

theorem exec_eq_self_of_setReg_zero {i : Instr} {s : State} {v : Word} (hexec : exec i s = .next (s.setReg 31#5 v)) :
    exec i s = .next s := by
  rw [hexec, State.setReg_zero]

/-! ### The shapes of the rules -/

section
variable {i : Instr} {s : State} {ra : Reg} {a : Word} {n : Nat}

theorem runs_of_setReg {v : Word} (hwf : i.wellFormed = true) (hexec : exec i s = .next (s.setReg ra v)) :
    Runs (encode i) i s (fun t => s.Sets t ra v s.pc) :=
  .of_exec hwf hexec (s.sets_setReg ra v)

/-- The extension is compared on the numbers `n` bytes can hold. -/
theorem loadRule_of_load {ext : Word → Word} {ext' : Nat → Word} (hwf : i.wellFormed = true)
    (hexec : exec i s = load n ext ra a s) (hext : ∀ v < 256 ^ n, ext (BitVec.ofNat 64 v) = ext' v) :
    LoadRule (encode i) i s ra a n ext' := by
  by_cases hra : ra = 31#5
  · subst hra
    exact .of_exec hwf (hexec.trans load_zero)
      ⟨fun _ => s.idle_self, fun hne => absurd rfl hne, fun hne => absurd rfl hne⟩
  by_cases hfits : s.cfg.Fits a.toNat n
  · refine .of_exec hwf (hexec.trans (load_of_fits hra hfits))
      ⟨fun heq => absurd heq hra, fun _ _ => ?_, fun _ hnot => absurd hfits hnot⟩
    rw [hext _ (s.bytesAt_lt _ n)]
    exact s.sets_setReg ra _
  · exact .of_exec hwf (hexec.trans (load_of_not_fits hra hfits))
      ⟨fun heq => absurd heq hra, fun _ hyes => absurd hyes hfits, fun _ _ => s.raises_raise _⟩

theorem storeRule_of_store (hwf : i.wellFormed = true) (hexec : exec i s = store n ra a s) :
    StoreRule (encode i) i s ra a n := by
  by_cases hport : n = 1 ∧ a = outputAddr
  · obtain ⟨rfl, rfl⟩ := hport
    exact .of_exec hwf (hexec.trans store_port)
      ⟨fun _ => s.emits_emit (s.reg ra), fun hne => absurd ⟨rfl, rfl⟩ hne, fun hne => absurd ⟨rfl, rfl⟩ hne⟩
  by_cases hfits : s.cfg.Fits a.toNat n
  · exact .of_exec hwf (hexec.trans (store_of_fits hport hfits ra))
      ⟨fun heq => absurd heq hport, fun _ _ => s.stores_writeLE _ n _, fun _ hnot => absurd hfits hnot⟩
  · exact .of_exec hwf (hexec.trans (store_of_not_fits hport hfits))
      ⟨fun heq => absurd heq hport, fun _ hyes => absurd hyes hfits, fun _ _ => s.raises_raise _⟩

/-- A prefetch acts on `fa` alone: nothing with register 31, the fault with any other (R214, R215). -/
theorem runs_of_prefetch {fa : Reg} (hwf : i.wellFormed = true)
    (hexec : exec i s = if fa = 31#5 then .next s else unimplemented i s) :
    Runs (encode i) i s fun t =>
      (fa = 31#5 → s.Idle t) ∧
      (fa ≠ 31#5 → s.Raises t (.unimplementedOpcode (s.pc - 4#64) i.opcode (encode i))) := by
  by_cases hfa : fa = 31#5
  · exact .of_exec hwf (hexec.trans (if_pos hfa)) ⟨fun _ => s.idle_self, fun hne => absurd hfa hne⟩
  · exact .of_exec hwf (hexec.trans (if_neg hfa)) ⟨fun heq => absurd heq hfa, fun _ => s.raises_raise _⟩

end

/-! ### The statements -/

/-- Settles O25: each address is the sum of R190 or R160, or the quotient by 8 scaled back. -/
theorem addressForms : Obligations.AddressForms := by
  intro s rb disp bdisp ea
  exact ⟨s.effAddr_eq_wrap rb disp, s.branchTarget_eq_wrap bdisp, toNat_alignQuad ea⟩

/-- Settles O26: both write one register, with no access. -/
theorem loadAddress : Obligations.LoadAddress := by
  intro s ra rb disp
  rw [← s.effAddr_eq_wrap, ← s.reg_add_highDisp_eq_wrap]
  exact ⟨runs_of_setReg (i := .lda ra rb disp) rfl rfl, runs_of_setReg (i := .ldah ra rb disp) rfl rfl⟩

/-- Settles O27: each is `load` of its width, and its extension is the one of R191 on what that many bytes hold. -/
theorem loads : Obligations.Loads := by
  intro s ra rb disp ea
  refine ⟨?ldbu, ?ldwu, ?ldl, ?ldq, ?ldqU⟩
  case ldbu => exact loadRule_of_load (i := .ldbu ra rb disp) rfl rfl fun _ hv => zeroExtend_ofNat (by decide) hv
  case ldwu => exact loadRule_of_load (i := .ldwu ra rb disp) rfl rfl fun _ hv => zeroExtend_ofNat (by decide) hv
  case ldl => exact loadRule_of_load (i := .ldl ra rb disp) rfl rfl fun v _ => sextLong_ofNat v
  case ldq => exact loadRule_of_load (i := .ldq ra rb disp) rfl rfl fun _ _ => rfl
  case ldqU => exact loadRule_of_load (i := .ldqU ra rb disp) rfl rfl fun _ _ => rfl

/-- Settles O28: `load` and the two prefetches test `ra` before anything else, so they evaluate to the state
itself, and the write of `lda` and `ldah` to register 31 is dropped. -/
theorem loadsToRegister31 : Obligations.LoadsToRegister31 := by
  intro s rb disp
  simp only [List.forall_mem_cons, List.not_mem_nil, false_implies, implies_true, and_true]
  refine ⟨?ldbu, ?ldwu, ?ldl, ?ldq, ?ldqU, ?lds, ?ldt, ?lda, ?ldah⟩
  case ldbu | ldwu | ldl | ldq | ldqU | lds | ldt => rfl
  case lda | ldah => exact exec_eq_self_of_setReg_zero rfl

/-- Settles O29: each is `store` of its width; only `stb` can reach the output port. -/
theorem stores : Obligations.Stores := by
  intro s ra rb disp ea
  refine ⟨?stb, ?stw, ?stl, ?stq, ?stqU⟩
  case stb => exact storeRule_of_store (i := .stb ra rb disp) rfl rfl
  case stw => exact storeRule_of_store (i := .stw ra rb disp) rfl rfl
  case stl => exact storeRule_of_store (i := .stl ra rb disp) rfl rfl
  case stq => exact storeRule_of_store (i := .stq ra rb disp) rfl rfl
  case stqU => exact storeRule_of_store (i := .stqU ra rb disp) rfl rfl

/-- Settles O30: both are prefetches. -/
theorem prefetchFloatLoads : Obligations.PrefetchFloatLoads := by
  intro s fa rb disp
  exact ⟨runs_of_prefetch (i := .lds fa rb disp) rfl rfl, runs_of_prefetch (i := .ldt fa rb disp) rfl rfl⟩

/-- Settles O31: the ten are the Memory Opcodes without execution semantics. -/
theorem decodeOnlyMemory : Obligations.DecodeOnlyMemory :=
  have hsubset : [.ldlL, .ldqL, .stlC, .stqC, .ldf, .ldg, .stf, .stg, .sts, .stt] ⊆ decodeOnlyTransfers := by decide
  decodeOnlyRule_of_not_mem fun op hop => not_mem_executed op (hsubset hop)

end Sys2Proof.Machine
end

section
/-! PROOFS. Add, subtract, compare and multiply (spec/44_operate_arith.md): the values as exact integers (R231 to R242,
R250, R251), the high half of a product (R252), the compares (R243 to R249), and the Operate instructions without
execution semantics (R253 to R259, R286, R287, R353). -/

namespace Sys2Proof.Machine

/-! ### Exact integers modulo 2^64

`wrap` is a ring homomorphism that undoes `toNat`, so it turns the exact result of an instruction into the 64-bit
expression of the model. -/

@[simp] theorem wrap_add (r q : Int) : wrap (r + q) = wrap r + wrap q := BitVec.ofInt_add r q

@[simp] theorem wrap_sub (r q : Int) : wrap (r - q) = wrap r - wrap q := by
  rw [Int.sub_eq_add_neg, BitVec.sub_eq_add_neg, wrap, BitVec.ofInt_add, BitVec.ofInt_neg, wrap, wrap]

@[simp] theorem wrap_mul (r q : Int) : wrap (r * q) = wrap r * wrap q := BitVec.ofInt_mul r q

@[simp] theorem wrap_ofNat (n : Nat) : wrap ofNat(n) = BitVec.ofNat 64 n := BitVec.ofInt_ofNat 64 n

@[simp] theorem wrap_toNat (v : Word) : wrap v.toNat = v := by
  rw [wrap, BitVec.ofInt_natCast, BitVec.ofNat_toNat, BitVec.setWidth_eq]

/-- The low 32 bits of the exact result are those of its 64-bit form, so a longword operation may compute on 64 bits
(R230). -/
theorem sextLong_wrap (r : Int) : sextLong (wrap r) = longResult r := by
  have hmod : ((wrap r).toNat : Int) = r % (2 ^ 64 : Nat) := by
    rw [wrap, BitVec.toNat_ofInt]
    exact Int.toNat_of_nonneg (Int.emod_nonneg r (by decide))
  have hlow : (r % (2 ^ 64 : Nat)).bmod (2 ^ 32) = r.bmod (2 ^ 32) := by
    rw [← Int.emod_bmod, Int.emod_emod_of_dvd r (by decide), Int.emod_bmod]
  rw [sextLong, BitVec.signExtend, BitVec.toInt_setWidth, hmod, hlow, longResult]

/-! ### The high half of a product -/

/-- Schoolbook multiplication in base `B`: the two high digits of the product, from the four partial products. -/
theorem mul_div_sq_eq_partials {B : Nat} (hB : 0 < B) (ah al bh bl : Nat) :
    (B * ah + al) * (B * bh + bl) / (B * B) =
      ah * bh + ah * bl / B + al * bh / B + (al * bl / B + ah * bl % B + al * bh % B) / B := by
  have hexpand : (B * ah + al) * (B * bh + bl) = al * bl + B * (ah * bl + al * bh + B * (ah * bh)) := by ring
  have hcross : al * bl / B + (ah * bl + al * bh + B * (ah * bh)) =
      al * bl / B + ah * bl % B + al * bh % B + B * (ah * bh + ah * bl / B + al * bh / B) := by
    nth_rw 1 [← Nat.mod_add_div (ah * bl) B, ← Nat.mod_add_div (al * bh) B]
    ring
  rw [hexpand, ← Nat.div_div_eq_div_mul, Nat.add_mul_div_left _ _ hB, hcross, Nat.add_mul_div_left _ _ hB,
    Nat.add_comm]

/-! ### The compares -/

theorem truth_eq_ite {p : Bool} {P : Prop} [Decidable P] (h : p = true ↔ P) :
    truth p = if P then 1#64 else 0#64 :=
  if_congr h rfl rfl

/-- The model's recursion over the bytes is the sum of R243. -/
theorem bytesGe_eq_sum (av bv : Word) (n : Nat) :
    bytesGe av bv n = BitVec.ofNat 64 (∑ i ∈ Finset.range n,
      if (byteOf i bv).toNat ≤ (byteOf i av).toNat then 2 ^ i else 0) := by
  induction n with
  | zero => rfl
  | succ n ih =>
    have hbit : (if (byteOf n bv).ule (byteOf n av) then BitVec.ofNat 64 (2 ^ n) else 0#64) =
        BitVec.ofNat 64 (if (byteOf n bv).toNat ≤ (byteOf n av).toNat then 2 ^ n else 0) := by
      rw [apply_ite (BitVec.ofNat 64)]
      exact if_congr decide_eq_true_iff rfl rfl
    rw [bytesGe, ih, hbit, Finset.sum_range_succ, BitVec.ofNat_add]

/-! ### The shapes of the rules -/

/-- An Operate instruction obeys its rule when the model's value is the value of the rule. -/
theorem runs_of_operate {i : Instr} {s : State} {rc : Reg} {v v' : Word} (hwf : i.wellFormed = true)
    (hexec : exec i s = operate rc v s) (hv : v = v') : Runs (encode i) i s (fun t => s.Sets t rc v' s.pc) :=
  hv ▸ runs_of_setReg hwf hexec

/-- Opcodes that fail the test of `Opcode.mayExecute` are outside the tables of R147. -/
theorem decodeOnlyRule_of_not_mayExecute {ops : List Opcode} (h : ∀ op ∈ ops, op.mayExecute = false) :
    DecodeOnlyRule ops :=
  decodeOnlyRule_of_not_mem fun op hop hmem =>
    Bool.false_ne_true ((h op hop).symm.trans (op.mayExecute_of_mem hmem))

/-! ### The statements -/

/-- Settles O11: the exact result enters through its 64-bit form, of which each sign-extends the low half. -/
theorem longwordArithmetic : Obligations.LongwordArithmetic := by
  intro s ra rc b
  simp only [← sextLong_wrap, wrap_add, wrap_sub, wrap_mul, wrap_ofNat, wrap_toNat]
  refine ⟨?addl, ?s4addl, ?s8addl, ?subl, ?s4subl, ?s8subl, ?mull⟩
  case addl => exact runs_of_setReg (i := .addl ra b rc) rfl rfl
  case s4addl => exact runs_of_setReg (i := .s4addl ra b rc) rfl rfl
  case s8addl => exact runs_of_setReg (i := .s8addl ra b rc) rfl rfl
  case subl => exact runs_of_setReg (i := .subl ra b rc) rfl rfl
  case s4subl => exact runs_of_setReg (i := .s4subl ra b rc) rfl rfl
  case s8subl => exact runs_of_setReg (i := .s8subl ra b rc) rfl rfl
  case mull => exact runs_of_setReg (i := .mull ra b rc) rfl rfl

/-- Settles O12: 64-bit arithmetic is exact arithmetic modulo 2^64. -/
theorem quadwordArithmetic : Obligations.QuadwordArithmetic := by
  intro s ra rc b
  simp only [wrap_add, wrap_sub, wrap_mul, wrap_ofNat, wrap_toNat]
  refine ⟨?addq, ?s4addq, ?s8addq, ?subq, ?s4subq, ?s8subq, ?mulq⟩
  case addq => exact runs_of_setReg (i := .addq ra b rc) rfl rfl
  case s4addq => exact runs_of_setReg (i := .s4addq ra b rc) rfl rfl
  case s8addq => exact runs_of_setReg (i := .s8addq ra b rc) rfl rfl
  case subq => exact runs_of_setReg (i := .subq ra b rc) rfl rfl
  case s4subq => exact runs_of_setReg (i := .s4subq ra b rc) rfl rfl
  case s8subq => exact runs_of_setReg (i := .s8subq ra b rc) rfl rfl
  case mulq => exact runs_of_setReg (i := .mulq ra b rc) rfl rfl

/-- Settles O13: the value is `mulHigh` as it stands, and the identity is schoolbook multiplication in base 2^32. -/
theorem multiplyHigh : Obligations.MultiplyHigh := by
  intro s ra rc b av bv ah al bh bl c
  constructor
  · exact runs_of_setReg (i := .umulh ra b rc) rfl rfl
  · have ha : 2 ^ 32 * ah + al = av := Nat.div_add_mod av (2 ^ 32)
    have hb : 2 ^ 32 * bh + bl = bv := Nat.div_add_mod bv (2 ^ 32)
    rw [← ha, ← hb]
    exact mul_div_sq_eq_partials (B := 2 ^ 32) (by decide) ah al bh bl

/-- Settles O14: each writes the truth of its relation. -/
theorem quadwordCompares : Obligations.QuadwordCompares := by
  intro s ra rc b av bv
  refine ⟨?cmpeq, ?cmplt, ?cmple, ?cmpult, ?cmpule⟩
  case cmpeq => exact runs_of_operate (i := .cmpeq ra b rc) rfl rfl (truth_eq_ite beq_iff_eq)
  case cmplt => exact runs_of_operate (i := .cmplt ra b rc) rfl rfl (truth_eq_ite BitVec.slt_iff_toInt_lt)
  case cmple => exact runs_of_operate (i := .cmple ra b rc) rfl rfl (truth_eq_ite BitVec.sle_iff_toInt_le)
  case cmpult => exact runs_of_operate (i := .cmpult ra b rc) rfl rfl (truth_eq_ite decide_eq_true_iff)
  case cmpule => exact runs_of_operate (i := .cmpule ra b rc) rfl rfl (truth_eq_ite decide_eq_true_iff)

/-- Settles O15: the sum over all eight bytes. -/
theorem byteCompare : Obligations.ByteCompare := by
  intro s ra rc b byteOfValue mask
  exact runs_of_operate (i := .cmpbge ra b rc) rfl rfl (bytesGe_eq_sum (s.reg ra) (s.operand2 b) 8)

/-- Settles O38: none of them passes the test that every Opcode with execution semantics passes. -/
theorem decodeOnlyOperate : Obligations.DecodeOnlyOperate :=
  decodeOnlyRule_of_not_mayExecute (by decide)

end Sys2Proof.Machine
end

section
/-! PROOFS. Logical operations and conditional moves (spec/45_operate_logical_cmov.md): the values bit by bit (R270 to
R276), and both outcomes of each conditional move (R277 to R285). -/

namespace Sys2Proof.Machine

/-! ### Bits of a complement -/

/-- Every bit of a word is flipped; `BitVec.getLsbD_not` also speaks of the positions past its end. -/
theorem getLsbD_complement (v : Word) {n : Nat} (h : n < 64) : (~~~v).getLsbD n = !v.getLsbD n := by
  rw [BitVec.getLsbD_not, decide_eq_true h, Bool.true_and]

/-! ### The shapes of the rules -/

section
variable {i : Instr} {s : State} {rc : Reg}

/-- An Operate instruction whose rule describes the value by a property `P` instead of an expression. -/
theorem runs_of_operate_of_value {v : Word} {P : Word → Prop} (hwf : i.wellFormed = true)
    (hexec : exec i s = operate rc v s) (hv : P v) : Runs (encode i) i s (fun t => ∃ v', P v' ∧ s.Sets t rc v' s.pc) :=
  .of_exec hwf hexec ⟨v, hv, s.sets_setReg rc v⟩

/-- A conditional move writes operand 2 or leaves the whole state as it is (R277). -/
theorem moveRule_of_condMove {b : Operand2} {test : Bool} {cond : Prop} (hwf : i.wellFormed = true)
    (hexec : exec i s = condMove test b rc s) (htest : test = true ↔ cond) :
    MoveRule (encode i) i s cond rc (s.operand2 b) := by
  refine .of_exec hwf hexec ⟨fun hcond => ?_, fun hcond => ?_⟩
  · rw [if_pos (htest.2 hcond)]
    exact s.sets_setReg rc _
  · rw [if_neg (mt htest.1 hcond)]
    exact s.idle_self

end

/-! ### The statements -/

/-- Settles O16: the model's operations on words act on each bit; the three with a complement flip the bit of
operand 2 first. -/
theorem logical : Obligations.Logical := by
  intro s ra rc b av bv
  have hflip {n : Nat} (hn : n < 64) : (~~~bv).getLsbD n = !bv.getLsbD n := getLsbD_complement bv hn
  refine ⟨?and, ?bic, ?bis, ?ornot, ?xor, ?eqv⟩
  case and => exact runs_of_operate_of_value (i := .and ra b rc) rfl rfl fun _ _ => BitVec.getLsbD_and
  case bic =>
    exact runs_of_operate_of_value (i := .bic ra b rc) rfl rfl fun _ hn => hflip hn ▸ BitVec.getLsbD_and
  case bis => exact runs_of_operate_of_value (i := .bis ra b rc) rfl rfl fun _ _ => BitVec.getLsbD_or
  case ornot =>
    exact runs_of_operate_of_value (i := .ornot ra b rc) rfl rfl fun _ hn => hflip hn ▸ BitVec.getLsbD_or
  case xor => exact runs_of_operate_of_value (i := .xor ra b rc) rfl rfl fun _ _ => BitVec.getLsbD_xor
  case eqv =>
    exact runs_of_operate_of_value (i := .eqv ra b rc) rfl rfl fun _ hn => hflip hn ▸ BitVec.getLsbD_xor

/-- Settles O17: each is `condMove` of its test, and the tests are those of the conditional branches. -/
theorem conditionalMoves : Obligations.ConditionalMoves := by
  intro s ra rc b v
  refine ⟨?cmoveq, ?cmovne, ?cmovlt, ?cmovge, ?cmovle, ?cmovgt, ?cmovlbs, ?cmovlbc⟩
  case cmoveq => exact moveRule_of_condMove (i := .cmoveq ra b rc) rfl rfl (isZero_iff v)
  case cmovne => exact moveRule_of_condMove (i := .cmovne ra b rc) rfl rfl (not_isZero_iff v)
  case cmovlt => exact moveRule_of_condMove (i := .cmovlt ra b rc) rfl rfl (isNegative_iff v)
  case cmovge => exact moveRule_of_condMove (i := .cmovge ra b rc) rfl rfl (isNotNegative_iff v)
  case cmovle => exact moveRule_of_condMove (i := .cmovle ra b rc) rfl rfl (isNotPositive_iff v)
  case cmovgt => exact moveRule_of_condMove (i := .cmovgt ra b rc) rfl rfl (isPositive_iff v)
  case cmovlbs => exact moveRule_of_condMove (i := .cmovlbs ra b rc) rfl rfl (lowBitSet_iff v)
  case cmovlbc => exact moveRule_of_condMove (i := .cmovlbc ra b rc) rfl rfl (not_lowBitSet_iff v)

end Sys2Proof.Machine
end

section
/-! PROOFS. Shifts and byte lanes (spec/46_operate_shift_bytelane.md): the shifts by the whole count (R304 to R306), the
bytes that `zap` and `zapnot` clear (R307, R308), the lanes as parts of 128-bit numbers (R309 to R329), and the load of
an unaligned quadword by two extracts (R330). -/

namespace Sys2Proof.Machine

/-! ### Shifts as products and quotients -/

theorem shiftLeft_eq_ofNat (v : Word) (n : Nat) : v <<< n = BitVec.ofNat 64 (v.toNat * 2 ^ n) := by
  apply BitVec.eq_of_toNat_eq
  rw [BitVec.toNat_shiftLeft, BitVec.toNat_ofNat, Nat.shiftLeft_eq]

theorem ushiftRight_eq_ofNat (v : Word) (n : Nat) : v >>> n = BitVec.ofNat 64 (v.toNat / 2 ^ n) := by
  rw [← Nat.shiftRight_eq_div_pow, ← BitVec.toNat_ushiftRight, BitVec.ofNat_toNat, BitVec.setWidth_eq]

theorem shiftLeft_eq_wrap (av bv : Word) :
    shiftLeft av bv = if bv.toNat < 64 then wrap (av.toNat * 2 ^ bv.toNat : Int) else 0#64 := by
  have hvalue : av <<< bv.toNat = wrap (av.toNat * 2 ^ bv.toNat : Int) := by
    rw [shiftLeft_eq_ofNat, wrap, ← BitVec.ofInt_natCast]
    push_cast
    rfl
  rw [shiftLeft, hvalue]

theorem shiftRight_eq_ofNat (av bv : Word) :
    shiftRight av bv = if bv.toNat < 64 then BitVec.ofNat 64 (av.toNat / 2 ^ bv.toNat) else 0#64 := by
  rw [shiftRight, ushiftRight_eq_ofNat]

theorem shiftRightSigned_eq_wrap (av bv : Word) :
    shiftRightSigned av bv = wrap (av.toInt / 2 ^ min bv.toNat 63) := by
  rw [shiftRightSigned, BitVec.sshiftRight_eq, Int.shiftRight_eq_div_pow, wrap]
  push_cast
  rfl

/-! ### The bytes of a mask -/

theorem getLsbD_lowByte (k : Nat) : (0xFF#64).getLsbD k = decide (k < 8) := by
  have hones : 0xFF#64 = (BitVec.allOnes 8).setWidth 64 := rfl
  rw [hones, BitVec.getLsbD_setWidth, BitVec.getLsbD_allOnes]
  grind

/-- Bit `j` of the mask of R307 and R308 lies in byte `j / 8`, so it is bit `j / 8` of the selector. -/
theorem getLsbD_byteMask (sel : Word) (n : Nat) {j : Nat} (hj : j < 64) :
    (byteMask sel n).getLsbD j = (decide (j / 8 < n) && sel.getLsbD (j / 8)) := by
  induction n with
  | zero => simp [byteMask]
  | succ n ih =>
    have hbyte : (0xFF#64 <<< (8 * n)).getLsbD j = decide (j / 8 = n) := by
      rw [BitVec.getLsbD_shiftLeft, getLsbD_lowByte]
      grind
    have hlast : (if sel.getLsbD n then 0xFF#64 <<< (8 * n) else 0#64).getLsbD j =
        (decide (j / 8 = n) && sel.getLsbD (j / 8)) := by
      grind
    have hbelow : decide (j / 8 < n + 1) = (decide (j / 8 < n) || decide (j / 8 = n)) := by
      rw [← Bool.decide_or, decide_eq_decide, Nat.lt_succ_iff_lt_or_eq]
    rw [byteMask, BitVec.getLsbD_or, ih, hlast, hbelow, Bool.and_or_distrib_right]

/-- Byte `i` of a word that keeps the bits of `mask` is kept or cleared as a whole when the mask is constant on it. -/
theorem extractLsb'_and_of_constant {v mask : Word} {i : Nat} {keep : Bool}
    (h : ∀ k < 8, mask.getLsbD (8 * i + k) = keep) :
    (v &&& mask).extractLsb' (8 * i) 8 = if keep = false then 0#8 else v.extractLsb' (8 * i) 8 := by
  apply BitVec.eq_of_getLsbD_eq
  intro k hk
  rw [BitVec.getLsbD_extractLsb', BitVec.getLsbD_and, h k hk]
  cases keep
  · simp
  · simp

theorem getLsbD_byteMask_of_byte (sel : Word) {i k : Nat} (hi : i < 8) (hk : k < 8) :
    (byteMask sel 8).getLsbD (8 * i + k) = sel.getLsbD i := by
  have hdiv : (8 * i + k) / 8 = i := by omega
  rw [getLsbD_byteMask sel 8 (by omega), hdiv, decide_eq_true hi, Bool.true_and]

theorem extractLsb'_zapnot (av sel : Word) {i : Nat} (hi : i < 8) :
    (av &&& byteMask sel 8).extractLsb' (8 * i) 8 =
      if sel.getLsbD i = false then 0#8 else av.extractLsb' (8 * i) 8 :=
  extractLsb'_and_of_constant fun _ hk => getLsbD_byteMask_of_byte sel hi hk

theorem extractLsb'_zap (av sel : Word) {i : Nat} (hi : i < 8) :
    (av &&& ~~~byteMask sel 8).extractLsb' (8 * i) 8 =
      if sel.getLsbD i = true then 0#8 else av.extractLsb' (8 * i) 8 := by
  have hkeep (k : Nat) (hk : k < 8) : (~~~byteMask sel 8).getLsbD (8 * i + k) = !sel.getLsbD i := by
    rw [getLsbD_complement _ (by omega), getLsbD_byteMask_of_byte sel hi hk]
  exact (extractLsb'_and_of_constant hkeep).trans (if_congr (Bool.not_eq_false' _).to_iff rfl rfl)

/-! ### Lanes as parts of 128-bit numbers -/

theorem laneShift_eq (bv : Word) : laneShift bv = bv.toNat % 8 * 8 := by
  rw [laneShift, BitVec.extractLsb'_toNat]
  rfl

theorem laneShift_lt (bv : Word) : laneShift bv < 64 := by
  rw [laneShift_eq]
  omega

/-- The 128-bit product of R300 is exact as far as its low half goes, whatever `m`. -/
theorem laneLow_eq (v : Word) (m : Nat) : laneLow v m = BitVec.ofNat 64 (v.toNat * 2 ^ m) := by
  apply BitVec.eq_of_toNat_eq
  rw [laneLow, BitVec.extractLsb'_toNat, BitVec.toNat_shiftLeft, BitVec.toNat_setWidth_of_le (by decide),
    Nat.shiftLeft_eq, Nat.shiftRight_zero, Nat.mod_mod_of_dvd _ (by decide), BitVec.toNat_ofNat]

/-- A lane moved by less than a quadword stays within the 128 bits. -/
theorem laneHigh_eq (v : Word) {m : Nat} (hm : m < 64) :
    laneHigh v m = BitVec.ofNat 64 (v.toNat * 2 ^ m / 2 ^ 64) := by
  have hfits : v.toNat * 2 ^ m < 2 ^ 128 :=
    calc v.toNat * 2 ^ m < 2 ^ 64 * 2 ^ m := Nat.mul_lt_mul_of_pos_right v.isLt (Nat.two_pow_pos m)
      _ ≤ 2 ^ 64 * 2 ^ 64 := Nat.mul_le_mul_left _ (Nat.pow_le_pow_right (by decide) hm.le)
      _ = 2 ^ 128 := rfl
  apply BitVec.eq_of_toNat_eq
  rw [laneHigh, BitVec.extractLsb'_toNat, BitVec.toNat_shiftLeft, BitVec.toNat_setWidth_of_le (by decide),
    Nat.shiftLeft_eq, Nat.mod_eq_of_lt hfits, Nat.shiftRight_eq_div_pow, BitVec.toNat_ofNat]

/-! ### An unaligned quadword from two aligned ones (R330) -/

section
variable (s : State) (a k j : Nat)

theorem State.bytesAt_lt_two_pow : s.bytesAt a k < 2 ^ (8 * k) :=
  (s.bytesAt_lt a k).trans_eq (pow_mul 2 8 k).symm

theorem State.bytesAt_add : s.bytesAt a (k + j) = 2 ^ (8 * k) * s.bytesAt (a + k) j + s.bytesAt a k := by
  have hshift (i : Nat) : (s.mem.read (a + (k + i))).toNat * 2 ^ (8 * (k + i)) =
      2 ^ (8 * k) * ((s.mem.read (a + k + i)).toNat * 2 ^ (8 * i)) := by
    rw [Nat.add_assoc, Nat.mul_add, pow_add]
    ring
  simp only [State.bytesAt, Finset.sum_range_add, hshift, ← Finset.mul_sum]
  exact Nat.add_comm _ _

theorem State.bytesAt_add_div : s.bytesAt a (k + j) / 2 ^ (8 * k) = s.bytesAt (a + k) j := by
  rw [s.bytesAt_add, Nat.mul_add_div (Nat.two_pow_pos _), Nat.div_eq_of_lt (s.bytesAt_lt_two_pow a k), Nat.add_zero]

theorem State.bytesAt_add_mod : s.bytesAt a (k + j) % 2 ^ (8 * k) = s.bytesAt a k := by
  rw [s.bytesAt_add, Nat.mul_add_mod, Nat.mod_eq_of_lt (s.bytesAt_lt_two_pow a k)]

/-- Of two adjacent spans of `k + j` bytes, the last `j` bytes of the first and, above them, the first `k` bytes of the
second are the span that starts `k` bytes into the first. -/
theorem State.bytesAt_or_of_adjacent :
    s.bytesAt a (k + j) / 2 ^ (8 * k) ||| s.bytesAt (a + (k + j)) (k + j) * 2 ^ (8 * j) % 2 ^ (8 * (k + j)) =
      s.bytesAt (a + k) (k + j) := by
  have hhigh : s.bytesAt (a + (k + j)) (k + j) * 2 ^ (8 * j) % 2 ^ (8 * (k + j)) =
      2 ^ (8 * j) * s.bytesAt (a + k + j) k := by
    rw [Nat.mul_add, pow_add, Nat.mul_mod_mul_right, s.bytesAt_add_mod, Nat.add_assoc, Nat.mul_comm]
  rw [s.bytesAt_add_div, hhigh, Nat.or_comm, ← Nat.two_pow_add_eq_or_of_lt (s.bytesAt_lt_two_pow _ j),
    ← s.bytesAt_add, Nat.add_comm j k]

/-- At an aligned address both quadwords are the one read, and neither is shifted. -/
theorem State.bytesAt_or_of_aligned_quadwords :
    s.bytesAt (a / 8 * 8) 8 / 2 ^ (a % 8 * 8) |||
      s.bytesAt ((a + 7) / 8 * 8) 8 * 2 ^ ((64 - a % 8 * 8) % 64) % 2 ^ 64 = s.bytesAt a 8 := by
  by_cases haligned : a % 8 = 0
  · have hlow : a / 8 * 8 = a := by omega
    have hhigh : (a + 7) / 8 * 8 = a := by omega
    rw [hlow, hhigh, haligned, Nat.zero_mul, pow_zero, Nat.div_one, Nat.mul_one,
      Nat.mod_eq_of_lt (s.bytesAt_lt_two_pow a 8), Nat.or_self]
  · have hnext : (a + 7) / 8 * 8 = a / 8 * 8 + 8 := by omega
    have hlow : a % 8 * 8 = 8 * (a % 8) := Nat.mul_comm _ _
    have hhigh : (64 - a % 8 * 8) % 64 = 8 * (8 - a % 8) := by omega
    have hsplit : a % 8 + (8 - a % 8) = 8 := by omega
    have hor := s.bytesAt_or_of_adjacent (a / 8 * 8) (a % 8) (8 - a % 8)
    rw [hsplit, Nat.div_add_mod'] at hor
    rw [hnext, hhigh, hlow]
    exact hor

end

/-! ### The shapes of the rules -/

/-- What the destination of an Operate instruction reads afterwards, unless it is register 31. -/
theorem exec_operate_reg {i : Instr} {s : State} {rc : Reg} {v : Word} (hrc : rc ≠ 31#5)
    (hexec : exec i s = operate rc v s) : ∃ t, exec i s = .next t ∧ t.reg rc = v :=
  ⟨_, hexec, s.reg_setReg_self rc v hrc⟩

/-! ### The statements -/

/-- Settles O18: a shift multiplies or divides by a power of 2, and the counts are cut off as R302 says. -/
theorem shifts : Obligations.Shifts := by
  intro s ra rc b av n
  refine ⟨?sll, ?srl, ?sra⟩
  case sll => exact runs_of_operate (i := .sll ra b rc) rfl rfl (shiftLeft_eq_wrap av (s.operand2 b))
  case srl => exact runs_of_operate (i := .srl ra b rc) rfl rfl (shiftRight_eq_ofNat av (s.operand2 b))
  case sra => exact runs_of_operate (i := .sra ra b rc) rfl rfl (shiftRightSigned_eq_wrap av (s.operand2 b))

/-- Settles O19: the byte mask, or its complement, is constant on every byte. -/
theorem byteZeroing : Obligations.ByteZeroing := by
  intro s ra rc b
  refine ⟨?zap, ?zapnot⟩
  case zap =>
    exact runs_of_operate_of_value (i := .zap ra b rc) rfl rfl fun _ => extractLsb'_zap (s.reg ra) (s.operand2 b)
  case zapnot =>
    exact runs_of_operate_of_value (i := .zapnot ra b rc) rfl rfl fun _ => extractLsb'_zapnot (s.reg ra) (s.operand2 b)

/-- Settles O20: the bits cleared are those of the moved lane. -/
theorem maskLanes : Obligations.MaskLanes := by
  intro s ra rc b av m
  have hlow (lane : Word) : av &&& ~~~laneLow lane (laneShift (s.operand2 b)) =
      av &&& ~~~BitVec.ofNat 64 (lane.toNat * 2 ^ m) := by rw [laneLow_eq, laneShift_eq]
  have hhigh (lane : Word) : av &&& ~~~laneHigh lane (laneShift (s.operand2 b)) =
      av &&& ~~~BitVec.ofNat 64 (lane.toNat * 2 ^ m / 2 ^ 64) := by
    rw [laneHigh_eq _ (laneShift_lt _), laneShift_eq]
  refine ⟨?mskbl, ?mskwl, ?mskll, ?mskql, ?mskwh, ?msklh, ?mskqh⟩
  case mskbl => exact runs_of_operate (i := .mskbl ra b rc) rfl rfl (hlow laneB)
  case mskwl => exact runs_of_operate (i := .mskwl ra b rc) rfl rfl (hlow laneW)
  case mskll => exact runs_of_operate (i := .mskll ra b rc) rfl rfl (hlow laneL)
  case mskql => exact runs_of_operate (i := .mskql ra b rc) rfl rfl (hlow laneQ)
  case mskwh => exact runs_of_operate (i := .mskwh ra b rc) rfl rfl (hhigh laneW)
  case msklh => exact runs_of_operate (i := .msklh ra b rc) rfl rfl (hhigh laneL)
  case mskqh => exact runs_of_operate (i := .mskqh ra b rc) rfl rfl (hhigh laneQ)

/-- Settles O21: the lane of x[ra] is moved. -/
theorem insertLanes : Obligations.InsertLanes := by
  intro s ra rc b av m
  have hlow (lane : Word) : laneLow (av &&& lane) (laneShift (s.operand2 b)) =
      BitVec.ofNat 64 ((av &&& lane).toNat * 2 ^ m) := by rw [laneLow_eq, laneShift_eq]
  have hhigh (lane : Word) : laneHigh (av &&& lane) (laneShift (s.operand2 b)) =
      BitVec.ofNat 64 ((av &&& lane).toNat * 2 ^ m / 2 ^ 64) := by
    rw [laneHigh_eq _ (laneShift_lt _), laneShift_eq]
  refine ⟨?insbl, ?inswl, ?insll, ?insql, ?inswh, ?inslh, ?insqh⟩
  case insbl => exact runs_of_operate (i := .insbl ra b rc) rfl rfl (hlow laneB)
  case inswl => exact runs_of_operate (i := .inswl ra b rc) rfl rfl (hlow laneW)
  case insll => exact runs_of_operate (i := .insll ra b rc) rfl rfl (hlow laneL)
  case insql => exact runs_of_operate (i := .insql ra b rc) rfl rfl (hlow laneQ)
  case inswh => exact runs_of_operate (i := .inswh ra b rc) rfl rfl (hhigh laneW)
  case inslh => exact runs_of_operate (i := .inslh ra b rc) rfl rfl (hhigh laneL)
  case insqh => exact runs_of_operate (i := .insqh ra b rc) rfl rfl (hhigh laneQ)

/-- Settles O22: x[ra] is moved, then masked. -/
theorem extractLanes : Obligations.ExtractLanes := by
  intro s ra rc b av m
  have hlow (lane : Word) : av >>> laneShift (s.operand2 b) &&& lane =
      BitVec.ofNat 64 (av.toNat / 2 ^ m) &&& lane := by rw [ushiftRight_eq_ofNat, laneShift_eq]
  have hhigh (lane : Word) : av <<< ((64 - laneShift (s.operand2 b)) % 64) &&& lane =
      BitVec.ofNat 64 (av.toNat * 2 ^ ((64 - m) % 64)) &&& lane := by
    rw [shiftLeft_eq_ofNat, laneShift_eq]
  refine ⟨?extbl, ?extwl, ?extll, ?extql, ?extwh, ?extlh, ?extqh⟩
  case extbl => exact runs_of_operate (i := .extbl ra b rc) rfl rfl (hlow laneB)
  case extwl => exact runs_of_operate (i := .extwl ra b rc) rfl rfl (hlow laneW)
  case extll => exact runs_of_operate (i := .extll ra b rc) rfl rfl (hlow laneL)
  case extql => exact runs_of_operate (i := .extql ra b rc) rfl rfl (hlow laneQ)
  case extwh => exact runs_of_operate (i := .extwh ra b rc) rfl rfl (hhigh laneW)
  case extlh => exact runs_of_operate (i := .extlh ra b rc) rfl rfl (hhigh laneL)
  case extqh => exact runs_of_operate (i := .extqh ra b rc) rfl rfl (hhigh laneQ)

/-- Settles O59: the lane of a quadword keeps every bit, so the two values are the shifted quadwords, and their OR puts
the bytes at `a` side by side. -/
theorem unalignedLoad : Obligations.UnalignedLoad := by
  intro s rl rh rd b a hrd _ ha hl hh
  have hmask (v : Word) : v &&& laneQ = v := BitVec.and_allOnes
  obtain ⟨t, htexec, ht⟩ := exec_operate_reg (i := .extql rl b rd) (s := s) hrd rfl
  obtain ⟨u, huexec, hu⟩ := exec_operate_reg (i := .extqh rh b rd) (s := s) hrd rfl
  refine ⟨t, u, htexec, huexec, ?_⟩
  rw [ht, hu, hmask, hmask, BitVec.toNat_or, laneShift_eq, BitVec.toNat_ushiftRight, BitVec.toNat_shiftLeft, ha, hl, hh,
    Nat.shiftRight_eq_div_pow, Nat.shiftLeft_eq]
  exact s.bytesAt_or_of_aligned_quadwords a

end Sys2Proof.Machine
end

section
/-! PROOFS. The sign extensions of the extension group (R351, R352 of spec/47_operate_ext_1c.md), the Formats without
execution semantics (R500 of 48_decode_only.md), and the exceptions (spec/60_exceptions.md): which executed instructions
fault (R427, R429), and when a step halts (R425). -/

namespace Sys2Proof.Machine

/-! ### Sign extension -/

/-- The sign extension of the low `k` bits is exact: those bits in two's complement, modulo 2^64 (R6). -/
theorem signExtend_setWidth_eq_wrap (v : Word) (k : Nat) :
    (v.setWidth k).signExtend 64 = wrap ((v.toNat : Int).bmod (2 ^ k)) := by
  rw [BitVec.signExtend, BitVec.toInt_setWidth, wrap]

/-- Settles O23: each writes its sign extension of operand 2; `ra` only fills its field of the word (R100). -/
theorem signExtension : Obligations.SignExtension := by
  intro s ra rc b bv
  constructor
  · exact runs_of_operate (i := .sextb ra b rc) rfl rfl (signExtend_setWidth_eq_wrap _ 8)
  · exact runs_of_operate (i := .sextw ra b rc) rfl rfl (signExtend_setWidth_eq_wrap _ 16)

/-! ### The Formats without execution semantics -/

/-- Settles O39: none of them passes the test that every Opcode with execution semantics passes. -/
theorem decodeOnlyFormats : Obligations.DecodeOnlyFormats :=
  decodeOnlyRule_of_not_mayExecute (by decide)

/-! ### Which executed instructions fault -/

/-- An executed instruction leaves the status as it was, or raises AddressError (R427). -/
theorem Performs.status_cases {i : Instr} {s t : State} (h : Performs i s (.next t)) :
    t.status = s.status ∨ ∃ ea, t = s.raise (.addressError s.cur ea) := by
  cases h with
  | nothing => exact .inl rfl
  | operate v => exact .inl (s.setReg_status _ v)
  | keeps _ _ ht => exact .inl ht
  | address _ ea => exact .inr ⟨ea, rfl⟩

/-- Only the ten loads and stores can raise AddressError (R429); the first case is that of a state already faulted. -/
theorem Effect.status_eq_or_mem_of_addressError {i : Instr} {s t : State} {ea : Word} (h : Effect i s (.next t))
    (ht : t.status = .faulted (.addressError s.cur ea)) :
    t.status = s.status ∨ i.opcode ∈ loadOpcodes ++ storeOpcodes := by
  cases h with
  | nothing => exact .inl rfl
  | register _ r v => exact .inl (s.setReg_status r v)
  | jump _ p => exact .inl rfl
  | link _ r p => exact .inl (s.setReg_status r s.npc)
  | memory hstore => exact .inr (List.mem_append_right _ hstore)
  | address hmem => exact .inr hmem
  | opcode => cases ht

/-- Settles O41: the fault of an executed instruction is an AddressError, and that is a load's or a store's. -/
theorem faultFreeInstructions : Obligations.FaultFreeInstructions := by
  intro i s hexecutes
  obtain ⟨t, ht⟩ := exec_next i s
  refine ⟨t, ht, ?_⟩
  have hperforms : Performs i s (.next t) := ht ▸ exec_performs hexecutes s
  have heffect : Effect i s (.next t) := ht ▸ exec_effect i s
  obtain hkept | ⟨ea, rfl⟩ := hperforms.status_cases
  · exact .inl hkept
  · exact (heffect.status_eq_or_mem_of_addressError rfl).imp_right (⟨·, ea, rfl⟩)

/-! ### When a step halts -/

theorem State.begin_eq_halt_iff (s : State) : s.begin = .halt ↔ s.pc = s.cfg.sentinel := by
  refine ⟨fun h => ?_, State.begin_of_sentinel⟩
  obtain ⟨hpc, -⟩ | ⟨-, -, hb⟩ | ⟨-, -, -, hb⟩ | ⟨-, -, -, hb⟩ := s.begin_cases
  · exact hpc
  · cases h.symm.trans hb
  · cases h.symm.trans hb
  · cases h.symm.trans hb

/-- No instruction halts the machine (R425). -/
theorem exec_not_halted {i : Instr} {s t : State} (h : exec i s = .next t) (hs : s.status ≠ .halted) :
    t.status ≠ .halted := by
  obtain hkept | ⟨info, rfl, -⟩ := exec_status_cases h
  · exact hkept ▸ hs
  · exact nofun

/-- Settles O47: past the halt test a step faults or runs an instruction, and neither halts. -/
theorem haltOnlyAtSentinel : Obligations.HaltOnlyAtSentinel := by
  intro s t h
  rw [← s.begin_eq_halt_iff]
  obtain ⟨-, hr, ⟨hb, rfl⟩ | ⟨info, hb, rfl⟩ | ⟨i, hb, hexec⟩⟩ := step_cases s t h
  · exact iff_of_true rfl hb
  · exact iff_of_false nofun (by rw [hb]; exact nofun)
  · have hs : s.advance.status ≠ .halted := by rw [State.advance_status, hr]; exact nofun
    exact iff_of_false (exec_not_halted hexec hs) (by rw [hb]; exact nofun)

end Sys2Proof.Machine
end
